-- ==== Sys2Proof/Word.lean ====
section
/-! DEFINITION. The word types of OCHO-CRC32 (spec/00_scope.md R6, R7; spec/30_encoding.md R70). -/

namespace Sys2Proof

/-- A register or data-bus word: 32 bits (R6). -/
abbrev Word := BitVec 32

/-- A byte fed to the checksum engine (R8). -/
abbrev Byte := BitVec 8

/-- A window offset: 6 bits (R50, R73). -/
abbrev Offset := BitVec 6

/-- A transaction descriptor `TXN`: 41 bits (R70). -/
abbrev Txn := BitVec 41

/-- A lane counter: 33 bits, so that the bound 2^32 is representable (R6, R40). -/
abbrev Count := BitVec 33

end Sys2Proof
end

