-- ==== Sys2Proof/Machine/Crc.lean ====
section
/-! DEFINITION. The CRC-32/ISO-HDLC functions (spec/41_checksum_engine.md R90 to R98). Pure; no state. -/

namespace Sys2Proof.Machine

/-- The reflected polynomial P of R90. -/
def crcPoly : Word := 0xEDB88320#32

/-- `Step` (R90): one bit-step of the reflected register. Log entry 8. -/
def crcStep (s : Word) : Word := if s.getLsbD 0 then (s >>> 1) ^^^ crcPoly else s >>> 1

/-- `Step^n` (R91). -/
def crcStepN : Nat → Word → Word
  | 0, s => s
  | n + 1, s => crcStepN n (crcStep s)

/-- `Table[n]` (R91): the constant ROM of R46, in the form that defines its contents. -/
def crcTable (n : Byte) : Word := crcStepN 8 (n.setWidth 32)

/-- `Upd(s, b)` (R92): consume one byte through the table. Log entry 8. -/
def crcUpd (s : Word) (b : Byte) : Word := (s >>> 8) ^^^ crcTable ((s ^^^ b.setWidth 32).extractLsb' 0 8)

/-- `Feed(s, bytes)` (R93): first byte first. -/
def crcFeed : Word → List Byte → Word
  | s, [] => s
  | s, b :: rest => crcFeed (crcUpd s b) rest

/-- `INIT` (R94). -/
def crcInit : Word := 0xFFFFFFFF#32

/-- `Fin(s)` (R95). -/
def crcFin (s : Word) : Word := ~~~s

/-- `Checksum(bytes)` (R96). -/
def checksum (bytes : List Byte) : Word := crcFin (crcFeed crcInit bytes)

/-- `InvStep(y)` (R98). -/
def crcInvStep (y : Word) : Word := if y.getLsbD 31 then ((y ^^^ crcPoly) <<< 1) ||| 1#32 else y <<< 1

/-- `InvStep^n` (R98, R137). -/
def crcInvStepN : Nat → Word → Word
  | 0, y => y
  | n + 1, y => crcInvStepN n (crcInvStep y)

end Sys2Proof.Machine
end

