-- ==== Sys2Proof/Config.lean ====
section
/-! DEFINITION. What an implementation fixes (spec/00_scope.md R6; U1, U2) and the one free value (U5). Log entries 1 and 3. -/

namespace Sys2Proof

/-- The implementation parameters of R6, in a form in which no illegal value can be written. -/
structure Params where
  /-- `NLANES_MAX − 1`: 256 values, so that `1 ≤ NLANES_MAX ≤ 256` (R6, D4). -/
  lanesMinusOne : Fin 256
  /-- `BASE / 64`: the window's number on the host bus, so that BASE is a multiple of 64 (R6, D3). -/
  window : Nat
deriving DecidableEq, Repr

/-- `NLANES_MAX`, the number of search lanes built (R6). -/
def Params.nlanesMax (p : Params) : Nat := p.lanesMinusOne.val + 1

/-- `BASE`, the byte address of the register window (R6). -/
def Params.base (p : Params) : Nat := 64 * p.window

/-- NLANES_MAX − 1 of this hardware: OPEN (U1). DESIGN CHOICE: an opaque constant, safe. -/
opaque Config.lanesMinusOne : Fin 256

/-- BASE / 64 of this hardware: OPEN (U2). DESIGN CHOICE: an opaque constant, safe. -/
opaque Config.window : Nat

/-- The parameters of this hardware. -/
def Config.params : Params := { lanesMinusOne := Config.lanesMinusOne, window := Config.window }

/-- Which of the enabled lanes steps next where nothing else says so: a free value, applied to a counter (R138, U5).
DESIGN CHOICE: an opaque constant, safe. -/
opaque Config.freeLane : Nat → Nat

end Sys2Proof
end

