-- ==== Sys2Proof/Syntax.lean ====
section
/-! DEFINITION. The operations of OCHO-CRC32: one constructor per row of spec/opcode_table.json, each with the operands
that spec/30_encoding.md R78 gives it. A bit the row ignores is no operand. -/

namespace Sys2Proof

/-- The 35 operations of R79. -/
inductive Instr where
  /-- RD_ID (R160). -/
  | rdId
  /-- RD_CTRL (R162). -/
  | rdCtrl
  /-- RD_STATUS (R168). -/
  | rdStatus
  /-- RD_CMD (R166). -/
  | rdCmd
  /-- RD_DATA8 (R106). -/
  | rdData8
  /-- RD_DATA32 (R107). -/
  | rdData32
  /-- RD_CRC_STATE (R103). -/
  | rdCrcState
  /-- RD_CRC_RESULT (R104). -/
  | rdCrcResult
  /-- RD_TARGET (R121). -/
  | rdTarget
  /-- RD_PREFIX (R130). -/
  | rdPrefix
  /-- RD_LANES (R124). -/
  | rdLanes
  /-- RD_RESULT (R132). -/
  | rdResult
  /-- RD_RESULT_LANE (R134). -/
  | rdResultLane
  /-- RD_LANE_MAX (R169). -/
  | rdLaneMax
  /-- RD_RSVD (R171): OFF = 0x38 or 0x3C. -/
  | rdRsvd (off : Offset)
  /-- WR_ID (R161). -/
  | wrId
  /-- WR_CTRL_SET (R163): NOMATCH = D[1], IRQEN = D[2], D[0] = 0. -/
  | wrCtrlSet (noMatch irqEn : Bool)
  /-- WR_CTRL_SRST (R164): D[0] = 1. -/
  | wrCtrlSrst
  /-- WR_STATUS (R165). -/
  | wrStatus
  /-- WR_CMD_INIT (R105). -/
  | wrCmdInit
  /-- WR_CMD_CAPTURE_TARGET (R122). -/
  | wrCmdCaptureTarget
  /-- WR_CMD_START (R126). -/
  | wrCmdStart
  /-- WR_CMD_CLEAR_ERR (R167). -/
  | wrCmdClearErr
  /-- WR_CMD_ACK (R136). -/
  | wrCmdAck
  /-- WR_DATA8 (R100): b = D[7:0]. -/
  | wrData8 (b : Byte)
  /-- WR_DATA32 (R101): w = D, fed as le32(w). -/
  | wrData32 (w : Word)
  /-- WR_CRC_STATE (R102). -/
  | wrCrcState (s : Word)
  /-- WR_CRC_RESULT (R108). -/
  | wrCrcResult
  /-- WR_TARGET (R120). -/
  | wrTarget (t : Word)
  /-- WR_PREFIX (R131). -/
  | wrPrefix
  /-- WR_LANES (R123). -/
  | wrLanes (n : Word)
  /-- WR_RESULT (R133). -/
  | wrResult
  /-- WR_RESULT_LANE (R135). -/
  | wrResultLane
  /-- WR_LANE_MAX (R170). -/
  | wrLaneMax
  /-- WR_RSVD (R172): OFF = 0x38 or 0x3C. -/
  | wrRsvd (off : Offset)
deriving DecidableEq, Repr

end Sys2Proof
end

