-- ==== Sys2Proof/WellFormed.lean ====
section
/-! DEFINITION. When an operation is well-formed. Every operand but the reserved offset may hold any value of its type
(spec/30_encoding.md R78), so the one check is that a reserved-slot operation names a reserved slot (R79, R80). -/

namespace Sys2Proof

/-- The reserved slots of the window (R62, R80). -/
def reservedSlot (off : Offset) : Bool := off == 0x38#6 || off == 0x3C#6

/-- An operation is well-formed when RD_RSVD and WR_RSVD name a reserved slot. -/
def Instr.wellFormed : Instr → Bool
  | .rdRsvd off => reservedSlot off
  | .wrRsvd off => reservedSlot off
  | .rdId | .rdCtrl | .rdStatus | .rdCmd | .rdData8 | .rdData32 | .rdCrcState | .rdCrcResult | .rdTarget | .rdPrefix
  | .rdLanes | .rdResult | .rdResultLane | .rdLaneMax => true
  | .wrId | .wrCtrlSet _ _ | .wrCtrlSrst | .wrStatus | .wrCmdInit | .wrCmdCaptureTarget | .wrCmdStart | .wrCmdClearErr
  | .wrCmdAck | .wrData8 _ | .wrData32 _ | .wrCrcState _ | .wrCrcResult | .wrTarget _ | .wrPrefix | .wrLanes _
  | .wrResult | .wrResultLane | .wrLaneMax => true

end Sys2Proof
end

