-- ==== Sys2Proof/Decode.lean ====
section
/-! DEFINITION. The transaction descriptor, its decoding and its encoding (spec/30_encoding.md R70 to R84). -/

namespace Sys2Proof

/-- Field W, bit 40: true for a write (R71). -/
def txnWrite (t : Txn) : Bool := t.getLsbD 40

/-- Field SZ, bits 39:38 (R72). -/
def txnSize (t : Txn) : BitVec 2 := t.extractLsb' 38 2

/-- Field OFF, bits 37:32 (R73). -/
def txnOff (t : Txn) : Offset := t.extractLsb' 32 6

/-- Field DATA, bits 31:0 (R74). -/
def txnData (t : Txn) : Word := t.extractLsb' 0 32

/-- The descriptor with the given fields (R70). -/
def mkTxn (w : Bool) (sz : BitVec 2) (off : Offset) (data : Word) : Txn :=
  ((BitVec.ofBool w).setWidth 41 <<< 40) ||| (sz.setWidth 41 <<< 38) ||| (off.setWidth 41 <<< 32) ||| data.setWidth 41

/-- The size code of a whole word, the only well-formed one (R72). -/
def wordSize : BitVec 2 := 0b10#2

/-- R56: an access is well-formed when it has size 4 and a word-aligned offset. -/
def accessWellFormed (t : Txn) : Bool := txnSize t == wordSize && (txnOff t).extractLsb' 0 2 == 0#2

/-- Why a descriptor matches no row of the opcode table. Each has an effect of its own (Machine/Ops.lean): none stops
the machine. -/
inductive DecodeError where
  /-- A read that is not well-formed (R57). -/
  | badRead
  /-- A write that is not well-formed (R58). -/
  | badWrite
  /-- A write to CMD whose word is no command (R76, R173). -/
  | illegalCommand
deriving DecidableEq, Repr

/-- The read rows by offset (R79). DATA is ignored (R74). -/
def decodeRead (off : Offset) : Except DecodeError Instr :=
  match off with
  | 0x00#6 => .ok .rdId
  | 0x04#6 => .ok .rdCtrl
  | 0x08#6 => .ok .rdStatus
  | 0x0C#6 => .ok .rdCmd
  | 0x10#6 => .ok .rdData8
  | 0x14#6 => .ok .rdData32
  | 0x18#6 => .ok .rdCrcState
  | 0x1C#6 => .ok .rdCrcResult
  | 0x20#6 => .ok .rdTarget
  | 0x24#6 => .ok .rdPrefix
  | 0x28#6 => .ok .rdLanes
  | 0x2C#6 => .ok .rdResult
  | 0x30#6 => .ok .rdResultLane
  | 0x34#6 => .ok .rdLaneMax
  | 0x38#6 => .ok (.rdRsvd 0x38#6)
  | 0x3C#6 => .ok (.rdRsvd 0x3C#6)
  | _ => .error .badRead

/-- The command word (R76, R77): bits 31:8 must be zero and CODE one of the five codes. -/
def decodeCommand (d : Word) : Except DecodeError Instr :=
  match d with
  | 0x00000001#32 => .ok .wrCmdInit
  | 0x00000002#32 => .ok .wrCmdCaptureTarget
  | 0x00000003#32 => .ok .wrCmdStart
  | 0x00000004#32 => .ok .wrCmdClearErr
  | 0x00000005#32 => .ok .wrCmdAck
  | _ => .error .illegalCommand

/-- A write to CTRL (R78): bit 0 selects the soft reset, else bits 1 and 2 are NOMATCH and IRQEN. -/
def decodeCtrl (d : Word) : Instr :=
  if d.getLsbD 0 then .wrCtrlSrst else .wrCtrlSet (d.getLsbD 1) (d.getLsbD 2)

/-- The write rows by offset (R79), with their operands (R78). -/
def decodeWrite (off : Offset) (d : Word) : Except DecodeError Instr :=
  match off with
  | 0x00#6 => .ok .wrId
  | 0x04#6 => .ok (decodeCtrl d)
  | 0x08#6 => .ok .wrStatus
  | 0x0C#6 => decodeCommand d
  | 0x10#6 => .ok (.wrData8 (d.extractLsb' 0 8))
  | 0x14#6 => .ok (.wrData32 d)
  | 0x18#6 => .ok (.wrCrcState d)
  | 0x1C#6 => .ok .wrCrcResult
  | 0x20#6 => .ok (.wrTarget d)
  | 0x24#6 => .ok .wrPrefix
  | 0x28#6 => .ok (.wrLanes d)
  | 0x2C#6 => .ok .wrResult
  | 0x30#6 => .ok .wrResultLane
  | 0x34#6 => .ok .wrLaneMax
  | 0x38#6 => .ok (.wrRsvd 0x38#6)
  | 0x3C#6 => .ok (.wrRsvd 0x3C#6)
  | _ => .error .badWrite

/-- The decoding of R75: a bad access first, then the rows by direction and offset. (The busy gate, which R75 applies
last, is part of the meaning of the rows it covers.) -/
def decode (t : Txn) : Except DecodeError Instr :=
  if accessWellFormed t then
    if txnWrite t then decodeWrite (txnOff t) (txnData t) else decodeRead (txnOff t)
  else if txnWrite t then .error .badWrite else .error .badRead

/-- The descriptor of a whole-word read at an offset; its DATA is written as 0. -/
def readTxn (off : Offset) : Txn := mkTxn false wordSize off 0#32

/-- The descriptor of a whole-word write at an offset. -/
def writeTxn (off : Offset) (d : Word) : Txn := mkTxn true wordSize off d

/-- The DATA word of WR_CTRL_SET: NOMATCH in bit 1, IRQEN in bit 2 (R78). -/
def ctrlOperand (noMatch irqEn : Bool) : Word :=
  ((BitVec.ofBool irqEn).setWidth 32 <<< 2) ||| ((BitVec.ofBool noMatch).setWidth 32 <<< 1)

/-- The descriptor of an operation; a bit the row ignores is written as 0 (R79). Log entry 13. -/
def encode : Instr → Txn
  | .rdId => readTxn 0x00
  | .rdCtrl => readTxn 0x04
  | .rdStatus => readTxn 0x08
  | .rdCmd => readTxn 0x0C
  | .rdData8 => readTxn 0x10
  | .rdData32 => readTxn 0x14
  | .rdCrcState => readTxn 0x18
  | .rdCrcResult => readTxn 0x1C
  | .rdTarget => readTxn 0x20
  | .rdPrefix => readTxn 0x24
  | .rdLanes => readTxn 0x28
  | .rdResult => readTxn 0x2C
  | .rdResultLane => readTxn 0x30
  | .rdLaneMax => readTxn 0x34
  | .rdRsvd off => readTxn off
  | .wrId => writeTxn 0x00 0
  | .wrCtrlSet noMatch irqEn => writeTxn 0x04 (ctrlOperand noMatch irqEn)
  | .wrCtrlSrst => writeTxn 0x04 1
  | .wrStatus => writeTxn 0x08 0
  | .wrCmdInit => writeTxn 0x0C 1
  | .wrCmdCaptureTarget => writeTxn 0x0C 2
  | .wrCmdStart => writeTxn 0x0C 3
  | .wrCmdClearErr => writeTxn 0x0C 4
  | .wrCmdAck => writeTxn 0x0C 5
  | .wrData8 b => writeTxn 0x10 (b.setWidth 32)
  | .wrData32 w => writeTxn 0x14 w
  | .wrCrcState s => writeTxn 0x18 s
  | .wrCrcResult => writeTxn 0x1C 0
  | .wrTarget t => writeTxn 0x20 t
  | .wrPrefix => writeTxn 0x24 0
  | .wrLanes n => writeTxn 0x28 n
  | .wrResult => writeTxn 0x2C 0
  | .wrResultLane => writeTxn 0x30 0
  | .wrLaneMax => writeTxn 0x34 0
  | .wrRsvd off => writeTxn off 0

/-- A row of the opcode table: a descriptor selects it when its bits under the mask are the row's (R84). -/
structure Row where
  mask : Txn
  bits : Txn
deriving DecidableEq, Repr

/-- R84: the descriptor selects the row. -/
def Row.selectedBy (r : Row) (t : Txn) : Bool := t &&& r.mask == r.bits

/-- The row of an operation: the "mask" and "match" of spec/opcode_table.json. -/
def rowOf : Instr → Row
  | .rdId => ⟨0x1ff00000000, 0x8000000000⟩
  | .rdCtrl => ⟨0x1ff00000000, 0x8400000000⟩
  | .rdStatus => ⟨0x1ff00000000, 0x8800000000⟩
  | .rdCmd => ⟨0x1ff00000000, 0x8c00000000⟩
  | .rdData8 => ⟨0x1ff00000000, 0x9000000000⟩
  | .rdData32 => ⟨0x1ff00000000, 0x9400000000⟩
  | .rdCrcState => ⟨0x1ff00000000, 0x9800000000⟩
  | .rdCrcResult => ⟨0x1ff00000000, 0x9c00000000⟩
  | .rdTarget => ⟨0x1ff00000000, 0xa000000000⟩
  | .rdPrefix => ⟨0x1ff00000000, 0xa400000000⟩
  | .rdLanes => ⟨0x1ff00000000, 0xa800000000⟩
  | .rdResult => ⟨0x1ff00000000, 0xac00000000⟩
  | .rdResultLane => ⟨0x1ff00000000, 0xb000000000⟩
  | .rdLaneMax => ⟨0x1ff00000000, 0xb400000000⟩
  | .rdRsvd _ => ⟨0x1fb00000000, 0xb800000000⟩
  | .wrId => ⟨0x1ff00000000, 0x18000000000⟩
  | .wrCtrlSet _ _ => ⟨0x1ff00000001, 0x18400000000⟩
  | .wrCtrlSrst => ⟨0x1ff00000001, 0x18400000001⟩
  | .wrStatus => ⟨0x1ff00000000, 0x18800000000⟩
  | .wrCmdInit => ⟨0x1ffffffffff, 0x18c00000001⟩
  | .wrCmdCaptureTarget => ⟨0x1ffffffffff, 0x18c00000002⟩
  | .wrCmdStart => ⟨0x1ffffffffff, 0x18c00000003⟩
  | .wrCmdClearErr => ⟨0x1ffffffffff, 0x18c00000004⟩
  | .wrCmdAck => ⟨0x1ffffffffff, 0x18c00000005⟩
  | .wrData8 _ => ⟨0x1ff00000000, 0x19000000000⟩
  | .wrData32 _ => ⟨0x1ff00000000, 0x19400000000⟩
  | .wrCrcState _ => ⟨0x1ff00000000, 0x19800000000⟩
  | .wrCrcResult => ⟨0x1ff00000000, 0x19c00000000⟩
  | .wrTarget _ => ⟨0x1ff00000000, 0x1a000000000⟩
  | .wrPrefix => ⟨0x1ff00000000, 0x1a400000000⟩
  | .wrLanes _ => ⟨0x1ff00000000, 0x1a800000000⟩
  | .wrResult => ⟨0x1ff00000000, 0x1ac00000000⟩
  | .wrResultLane => ⟨0x1ff00000000, 0x1b000000000⟩
  | .wrLaneMax => ⟨0x1ff00000000, 0x1b400000000⟩
  | .wrRsvd _ => ⟨0x1fb00000000, 0x1b800000000⟩

/-- The operation that the decoder reads from the table's numbering of a descriptor: bit i of w is bit i of TXN. A
number of more than 41 bits is no descriptor. -/
def decodeTableWord (nbits w : Nat) : Option Instr :=
  if w % 2 ^ nbits < 2 ^ 41 then (decode (BitVec.ofNat 41 (w % 2 ^ nbits))).toOption else none

end Sys2Proof
end

