-- ==== Sys2Proof/Machine/State.lean ====
section
/-! DEFINITION. The state of OCHO-CRC32 (spec/10_state.md R20 to R49) and its reset value (spec/70_reset_and_hazards.md
R221). INVENTORY.md lists each field with its rule. -/

namespace Sys2Proof.Machine

/-- One entry of the hidden lane file (R40). -/
structure Lane where
  /-- The lane takes part in the current search. -/
  active : Bool
  /-- The next tail value to test. -/
  cur : Count
  /-- The exclusive upper bound of the lane's range: the spec's `end`. -/
  limit : Count
  /-- The lane has matched. -/
  found : Bool
  /-- The matching tail value, meaningful only when `found`. -/
  val : Word
deriving DecidableEq, Repr

/-- A bus response (R51, R195). -/
inductive Resp where
  | okay
  | error
deriving DecidableEq, Repr

/-- What the bus returned for the last transaction (R51, R70): a read returns data and a response, a write a response.
The model's own record, log entry 5. -/
inductive Reply where
  /-- No transaction has been answered yet. -/
  | none
  | read (rdata : Word) (resp : Resp)
  | write (resp : Resp)
deriving DecidableEq, Repr

/-- One entry of the order in which the steps happen (R52, R64, R232): a host transaction, a hardware reset, a lane step
of one lane, or the completion step. Log entry 2. -/
inductive Event where
  /-- The host issues the transaction with this descriptor. -/
  | txn (t : Txn)
  /-- The platform drives `rst` (R220). -/
  | rst
  /-- The search unit's next step is a lane step of lane i (R127). -/
  | lane (i : Nat)
  /-- The search unit's next step is the completion step (R129). -/
  | complete
deriving DecidableEq, Repr

/-- The state of the block, and the model's own fields `reply`, `agenda` and `tick`. -/
structure State where
  /-- NLANES_MAX and BASE (R6): hardwired. LANE_MAX reads NLANES_MAX (R45). Log entry 1. -/
  params : Params
  /-- CTRL.NOMATCH (R24). -/
  noMatch : Bool
  /-- CTRL.IRQEN (R25). -/
  irqEn : Bool
  /-- STATUS.BUSY (R27). -/
  busy : Bool
  /-- STATUS.DONE (R28). -/
  done : Bool
  /-- STATUS.FOUND (R29). -/
  found : Bool
  /-- STATUS.ERRCODE (R31). -/
  errcode : BitVec 4
  /-- CRC_STATE (R37). -/
  crcState : Word
  /-- TARGET (R39). -/
  target : Word
  /-- PREFIX (R41). -/
  prefixState : Word
  /-- LANES (R42): its nine stored bits. -/
  lanes : BitVec 9
  /-- RESULT (R43). -/
  result : Word
  /-- RESULT_LANE (R44): its eight stored bits. -/
  resultLane : BitVec 8
  /-- The lane file (R40): NLANES_MAX entries. -/
  laneFile : List Lane
  /-- The bus's answer to the last transaction. -/
  reply : Reply
  /-- The steps laid out to happen next, oldest first. -/
  agenda : List Event
  /-- The counter that the free choice of a lane is applied to (U5). -/
  tick : Nat
deriving DecidableEq, Repr

/-- No operation raises a fault and none exists: the block raises no trap (R190), and every transaction is answered OKAY
or ERROR (R195, R235), which is a next state. Nothing to say of safe or unsafe. -/
inductive Fault where
deriving DecidableEq, Repr

/-- Why the model gives no meaning. -/
inductive Refusal where
  /-- Raised by an arm of `exec` for an operation that has no meaning yet. Safe: the run says nothing. No arm raises it. -/
  | notModelled (mnemonic : String)
deriving DecidableEq, Repr

/-- The outcome of a step of this machine. -/
abbrev Out := Host.Outcome State Fault Refusal

/-- The sentinel 0xFFFFFFFF of RESULT (R43). -/
def sentinel : Word := 0xFFFFFFFF#32

/-- A lane-file entry after reset (R40, R221). -/
def Lane.reset : Lane := { active := false, cur := 0, limit := 0, found := false, val := 0 }

/-- R221 for a block built with the parameters p. The model's own fields are empty: nothing has been answered (log entry
5), nothing is laid out (log entry 2), no free choice has been taken (log entry 3). -/
def State.resetFor (p : Params) : State :=
  { params := p
    noMatch := false
    irqEn := false
    busy := false
    done := false
    found := false
    errcode := 0#4
    crcState := 0xFFFFFFFF#32
    target := 0x00000000#32
    prefixState := 0xFFFFFFFF#32
    lanes := BitVec.ofNat 9 p.nlanesMax
    result := sentinel
    resultLane := 0#8
    laneFile := List.replicate p.nlanesMax Lane.reset
    reply := .none
    agenda := []
    tick := 0 }

/-- The machine right after the hardware reset (R221), with this hardware's open parameters (R6). -/
def State.reset : State := State.resetFor Config.params

end Sys2Proof.Machine
end

