-- ==== Sys2Proof/Machine/Operands.lean ====
section
/-! DEFINITION. Operand forms: bytes of a word, the bytes a write feeds, the legalised worker count
(spec/00_scope.md R8; spec/30_encoding.md R78; spec/42_collision_search.md R123). -/

namespace Sys2Proof.Machine

/-- `le32(v)` (R8, R54): the four bytes of a word, least significant first. -/
def le32 (v : Word) : List Byte :=
  [v.extractLsb' 0 8, v.extractLsb' 8 8, v.extractLsb' 16 8, v.extractLsb' 24 8]

/-- The bytes that a write feeds to the checksum engine, in order (R78): none but for DATA8 and DATA32. -/
def fedBytes : Instr → List Byte
  | .wrData8 b => [b]
  | .wrData32 w => le32 w
  | .rdId | .rdCtrl | .rdStatus | .rdCmd | .rdData8 | .rdData32 | .rdCrcState | .rdCrcResult | .rdTarget | .rdPrefix
  | .rdLanes | .rdResult | .rdResultLane | .rdLaneMax | .rdRsvd _ | .wrId | .wrCtrlSet _ _ | .wrCtrlSrst | .wrStatus
  | .wrCmdInit | .wrCmdCaptureTarget | .wrCmdStart | .wrCmdClearErr | .wrCmdAck | .wrCrcState _ | .wrCrcResult
  | .wrTarget _ | .wrPrefix | .wrLanes _ | .wrResult | .wrResultLane | .wrLaneMax | .wrRsvd _ => []

/-- `Legal(d)` (R123): the whole word is compared; 0 becomes 1 and a value above NLANES_MAX becomes NLANES_MAX. -/
def legalLanes (nlanesMax : Nat) (d : Word) : BitVec 9 :=
  if d = 0#32 then 1#9
  else if d.toNat ≤ nlanesMax then BitVec.ofNat 9 d.toNat
  else BitVec.ofNat 9 nlanesMax

/-- A one-bit flag as a word. -/
def flagWord (b : Bool) : Word := (BitVec.ofBool b).setWidth 32

/-- `x[LANES]` as a read returns it (R124). -/
def lanesWord (s : State) : Word := s.lanes.setWidth 32

/-- `x[RESULT_LANE]` as a read returns it (R134). -/
def resultLaneWord (s : State) : Word := s.resultLane.setWidth 32

/-- LANE_MAX as a read returns it (R45, R169). -/
def laneMaxWord (s : State) : Word := BitVec.ofNat 32 s.params.nlanesMax

/-- ID (R22). -/
def idValue : Word := 0x4F435243#32

end Sys2Proof.Machine
end

