-- ==== Sys2Proof/Machine/Flags.lean ====
section
/-! DEFINITION. The computed flags and the words of STATUS and CTRL (spec/10_state.md R23 to R33, R47;
spec/43_control_status.md R162, R168). -/

namespace Sys2Proof.Machine

/-- STATUS.ERR (R30): ERRCODE is not 0. -/
def State.errFlag (s : State) : Bool := s.errcode != 0#4

/-- The interrupt output, also STATUS.IRQ (R32, R47): DONE and IRQEN. -/
def State.irq (s : State) : Bool := s.done && s.irqEn

/-- The word a read of CTRL returns (R162): SRST and bits 31:3 read 0. -/
def ctrlWord (s : State) : Word := (flagWord s.irqEn <<< 2) ||| (flagWord s.noMatch <<< 1)

/-- The word a read of STATUS returns (R168). -/
def statusWord (s : State) : Word :=
  flagWord s.busy ||| (flagWord s.done <<< 1) ||| (flagWord s.found <<< 2) ||| (flagWord s.errFlag <<< 3)
    ||| (s.errcode.setWidth 32 <<< 4) ||| (flagWord s.irq <<< 8)

end Sys2Proof.Machine
end

