-- ==== Sys2Proof/Machine/Ops.lean ====
section
/-! DEFINITION. The shared operations: answering, rejecting, the busy gate, reset, the register map. The block takes no
exception and has none to return from (spec/60_exceptions.md R190, R200); `reject` is its one error primitive (R191). -/

namespace Sys2Proof.Machine

/-- A read that is answered OKAY with the data v. It changes nothing else (R59). -/
def answerRead (v : Word) (s : State) : State := { s with reply := .read v .okay }

/-- A write that is answered OKAY. -/
def answerWrite (s : State) : State := { s with reply := .write .okay }

/-- A bad-access read (R57): data 0, response ERROR, nothing changed. -/
def answerBadRead (s : State) : State := { s with reply := .read 0#32 .error }

/-- The causes of a rejected write (R192). -/
inductive RejectCode where
  | busy
  | illegalCmd
  | badAccess
  | roWrite
deriving DecidableEq, Repr

/-- The code that ERRCODE records (R192). -/
def rejectCode : RejectCode → BitVec 4
  | .busy => 1#4
  | .illegalCmd => 2#4
  | .badAccess => 3#4
  | .roWrite => 4#4

/-- `Reject(code)` (R191): the first error is kept, the response is ERROR, nothing else changes. -/
def reject (c : RejectCode) (s : State) : State :=
  { s with errcode := if s.errcode = 0#4 then rejectCode c else s.errcode, reply := .write .error }

/-- The busy gate (R193) before a write whose effect is f: refused with BUSY while a search runs, else performed and
answered OKAY. -/
def gatedWrite (f : State → State) (s : State) : Out :=
  if s.busy then .next (reject .busy s) else .next (answerWrite (f s))

/-- A write that always rejects with RO_WRITE (R192): a read-only register or a reserved slot. -/
def readOnlyWrite (s : State) : Out := .next (reject .roWrite s)

/-- A read that answers v. -/
def readAs (v : Word) (s : State) : Out := .next (answerRead v s)

/-- What a descriptor that matches no row does (R57, R58, R173). -/
def answerUndecoded : DecodeError → State → State
  | .badRead, s => answerBadRead s
  | .badWrite, s => reject .badAccess s
  | .illegalCommand, s => reject .illegalCmd s

/-- `Reset()` (R221), as rst and SRST perform it on a running block: the parameters are hardwired, and the model's own
fields are no part of the block. -/
def resetBlock (s : State) : State :=
  { State.resetFor s.params with reply := s.reply, agenda := s.agenda, tick := s.tick }

/-- The register map as a host reads it (R20, R62): the word at each word-aligned offset of the window. -/
def windowWord (s : State) (off : Offset) : Word :=
  match off with
  | 0x00#6 => idValue
  | 0x04#6 => ctrlWord s
  | 0x08#6 => statusWord s
  | 0x18#6 => s.crcState
  | 0x1C#6 => crcFin s.crcState
  | 0x20#6 => s.target
  | 0x24#6 => s.prefixState
  | 0x28#6 => lanesWord s
  | 0x2C#6 => s.result
  | 0x30#6 => resultLaneWord s
  | 0x34#6 => laneMaxWord s
  | _ => 0#32

end Sys2Proof.Machine
end

