-- ==== Sys2Proof/Machine/Control.lean ====
section
/-! DEFINITION. The meanings of the control, status and reserved operations (spec/43_control_status.md R160 to R172). -/

namespace Sys2Proof.Machine

/-- RD_ID (R160). -/
def execRdId (s : State) : Out := readAs idValue s

/-- WR_ID (R161). -/
def execWrId (s : State) : Out := readOnlyWrite s

/-- RD_CTRL (R162). -/
def execRdCtrl (s : State) : Out := readAs (ctrlWord s) s

/-- WR_CTRL_SET (R163). -/
def execWrCtrlSet (noMatch irqEn : Bool) (s : State) : Out :=
  gatedWrite (fun s => { s with noMatch := noMatch, irqEn := irqEn }) s

/-- WR_CTRL_SRST (R164, R222): not gated. -/
def execWrCtrlSrst (s : State) : Out := .next (answerWrite (resetBlock s))

/-- WR_STATUS (R165). -/
def execWrStatus (s : State) : Out := readOnlyWrite s

/-- RD_CMD (R166). -/
def execRdCmd (s : State) : Out := readAs 0#32 s

/-- WR_CMD_CLEAR_ERR (R167): not gated. -/
def execWrCmdClearErr (s : State) : Out := .next (answerWrite { s with errcode := 0#4 })

/-- RD_STATUS (R168). -/
def execRdStatus (s : State) : Out := readAs (statusWord s) s

/-- RD_LANE_MAX (R169). -/
def execRdLaneMax (s : State) : Out := readAs (laneMaxWord s) s

/-- WR_LANE_MAX (R170). -/
def execWrLaneMax (s : State) : Out := readOnlyWrite s

/-- RD_RSVD (R171): either reserved slot reads 0. -/
def execRdRsvd (_off : Offset) (s : State) : Out := readAs 0#32 s

/-- WR_RSVD (R172): either reserved slot rejects. -/
def execWrRsvd (_off : Offset) (s : State) : Out := readOnlyWrite s

end Sys2Proof.Machine
end

