-- ==== Sys2Proof/Machine/Engine.lean ====
section
/-! DEFINITION. The meanings of the checksum engine's operations (spec/41_checksum_engine.md R100 to R108). -/

namespace Sys2Proof.Machine

/-- WR_DATA8 (R100). -/
def execWrData8 (b : Byte) (s : State) : Out :=
  gatedWrite (fun s => { s with crcState := crcUpd s.crcState b }) s

/-- WR_DATA32 (R101). -/
def execWrData32 (w : Word) (s : State) : Out :=
  gatedWrite (fun s => { s with crcState := crcFeed s.crcState (le32 w) }) s

/-- WR_CRC_STATE (R102). -/
def execWrCrcState (v : Word) (s : State) : Out :=
  gatedWrite (fun s => { s with crcState := v }) s

/-- RD_CRC_STATE (R103). -/
def execRdCrcState (s : State) : Out := readAs s.crcState s

/-- RD_CRC_RESULT (R104). -/
def execRdCrcResult (s : State) : Out := readAs (crcFin s.crcState) s

/-- WR_CMD_INIT (R105). -/
def execWrCmdInit (s : State) : Out :=
  gatedWrite (fun s => { s with crcState := crcInit }) s

/-- RD_DATA8 (R106). -/
def execRdData8 (s : State) : Out := readAs 0#32 s

/-- RD_DATA32 (R107). -/
def execRdData32 (s : State) : Out := readAs 0#32 s

/-- WR_CRC_RESULT (R108). -/
def execWrCrcResult (s : State) : Out := readOnlyWrite s

end Sys2Proof.Machine
end

