-- ==== Sys2Proof/Machine/SearchUnit.lean ====
section
/-! DEFINITION. The tail search unit's own steps (spec/42_collision_search.md R125 to R129): the partition, the start of
a search, the lane step, the completion step, and the choice of the next step where nothing lays it out. -/

namespace Sys2Proof.Machine

/-- The number of tail values, 2^32. -/
def tailCount : Nat := 2 ^ 32

/-- `R = ceil(2^32 / T)` (R125). T = 0 is in no state that a run reaches (log entry 12). -/
def rangeSize (t : Nat) : Nat := (tailCount + t - 1) / t

/-- `start_i` (R125). -/
def rangeStart (t i : Nat) : Nat := min (i * rangeSize t) tailCount

/-- `end_i` (R125), exclusive. -/
def rangeEnd (t i : Nat) : Nat := min ((i + 1) * rangeSize t) tailCount

/-- Lane i at an accepted START with T workers (R126). An idle lane only becomes inactive (U7, log entry 7). -/
def startLane (t i : Nat) (l : Lane) : Lane :=
  if i < t then
    { active := true, cur := BitVec.ofNat 33 (rangeStart t i), limit := BitVec.ofNat 33 (rangeEnd t i),
      found := false, val := 0#32 }
  else { l with active := false }

/-- The effect of an accepted START (R126). -/
def startSearch (s : State) : State :=
  { s with
    laneFile := s.laneFile.mapIdx (startLane s.lanes.toNat)
    prefixState := s.crcState
    busy := true
    done := false
    found := false
    result := sentinel
    resultLane := 0#8 }

/-- The comparator of R127: the candidate's checksum is TARGET and NOMATCH is 0 (R24). -/
def tailMatches (s : State) (v : Word) : Bool :=
  crcFin (crcFeed s.prefixState (le32 v)) == s.target && !s.noMatch

/-- The lane step of this lane is enabled (R127). -/
def laneEnabled (s : State) (l : Lane) : Bool := s.busy && l.active && !l.found && decide (l.cur < l.limit)

/-- The lane is finished (R128). -/
def laneFinished (l : Lane) : Bool := !l.active || l.found || l.cur == l.limit

/-- What a lane step makes of the lane's entry (R127). -/
def testTail (s : State) (l : Lane) : Lane :=
  if tailMatches s (l.cur.setWidth 32) then { l with found := true, val := l.cur.setWidth 32 }
  else { l with cur := l.cur + 1#33 }

/-- The lane step of lane i (R127); where it is not enabled, nothing happens (log entry 4). -/
def laneStep (i : Nat) (s : State) : State :=
  match s.laneFile[i]? with
  | some l => if laneEnabled s l then { s with laneFile := s.laneFile.set i (testTail s l) } else s
  | none => s

/-- The completion step is enabled (R129). -/
def completionEnabled (s : State) : Bool := s.busy && s.laneFile.all laneFinished

/-- The lowest-indexed active lane that has matched, counted from i, with its tail value (R129). -/
def firstWinner : Nat → List Lane → Option (Nat × Word)
  | _, [] => none
  | i, l :: rest => if l.active && l.found then some (i, l.val) else firstWinner (i + 1) rest

/-- `Complete()` (R129). -/
def completeSearch (s : State) : State :=
  { s with
    found := (firstWinner 0 s.laneFile).isSome
    result := ((firstWinner 0 s.laneFile).map Prod.snd).getD sentinel
    resultLane := BitVec.ofNat 8 (((firstWinner 0 s.laneFile).map Prod.fst).getD 0)
    laneFile := s.laneFile.map (fun l => { l with active := false })
    busy := false
    done := true }

/-- The completion step (R129); where it is not enabled, nothing happens (log entry 4). -/
def completionStep (s : State) : State := if completionEnabled s then completeSearch s else s

/-- Lane i has an enabled lane step. -/
def laneEnabledAt (s : State) (i : Nat) : Bool :=
  match s.laneFile[i]? with
  | some l => laneEnabled s l
  | none => false

/-- The lanes that have an enabled lane step, in ascending order. -/
def enabledLanes (s : State) : List Nat := (List.range s.laneFile.length).filter (laneEnabledAt s)

/-- The step the search unit takes of itself, where nothing is laid out: a lane step of some enabled lane, which one
being free (R138, U5, log entry 3); with no lane enabled, the completion step if it is enabled; else nothing. -/
def unitTurn (s : State) : State :=
  match (enabledLanes s)[Config.freeLane s.tick % (enabledLanes s).length]? with
  | some i => { laneStep i s with tick := s.tick + 1 }
  | none => completionStep s

end Sys2Proof.Machine
end

