-- ==== Sys2Proof/Machine/Search.lean ====
section
/-! DEFINITION. The meanings of the tail search unit's operations (spec/42_collision_search.md R120 to R136). -/

namespace Sys2Proof.Machine

/-- WR_TARGET (R120). -/
def execWrTarget (v : Word) (s : State) : Out :=
  gatedWrite (fun s => { s with target := v }) s

/-- RD_TARGET (R121). -/
def execRdTarget (s : State) : Out := readAs s.target s

/-- WR_CMD_CAPTURE_TARGET (R122). -/
def execWrCmdCaptureTarget (s : State) : Out :=
  gatedWrite (fun s => { s with target := crcFin s.crcState }) s

/-- WR_LANES (R123). -/
def execWrLanes (n : Word) (s : State) : Out :=
  gatedWrite (fun s => { s with lanes := legalLanes s.params.nlanesMax n }) s

/-- RD_LANES (R124). -/
def execRdLanes (s : State) : Out := readAs (lanesWord s) s

/-- WR_CMD_START (R126). -/
def execWrCmdStart (s : State) : Out := gatedWrite startSearch s

/-- RD_PREFIX (R130). -/
def execRdPrefix (s : State) : Out := readAs s.prefixState s

/-- WR_PREFIX (R131). -/
def execWrPrefix (s : State) : Out := readOnlyWrite s

/-- RD_RESULT (R132). -/
def execRdResult (s : State) : Out := readAs s.result s

/-- WR_RESULT (R133). -/
def execWrResult (s : State) : Out := readOnlyWrite s

/-- RD_RESULT_LANE (R134). -/
def execRdResultLane (s : State) : Out := readAs (resultLaneWord s) s

/-- WR_RESULT_LANE (R135). -/
def execWrResultLane (s : State) : Out := readOnlyWrite s

/-- WR_CMD_ACK (R136). -/
def execWrCmdAck (s : State) : Out :=
  gatedWrite (fun s => { s with done := false }) s

end Sys2Proof.Machine
end

