-- ==== Sys2Proof/Machine/Dispatch.lean ====
section
/-! DEFINITION. The dispatch of the 35 operations to their meanings. -/

namespace Sys2Proof.Machine

/-- The meaning of an operation. -/
def exec (i : Instr) (s : State) : Host.Outcome State Fault Refusal :=
  match i with
  | .rdId => Sys2Proof.Machine.execRdId s
  | .rdCtrl => Sys2Proof.Machine.execRdCtrl s
  | .rdStatus => Sys2Proof.Machine.execRdStatus s
  | .rdCmd => Sys2Proof.Machine.execRdCmd s
  | .rdData8 => Sys2Proof.Machine.execRdData8 s
  | .rdData32 => Sys2Proof.Machine.execRdData32 s
  | .rdCrcState => Sys2Proof.Machine.execRdCrcState s
  | .rdCrcResult => Sys2Proof.Machine.execRdCrcResult s
  | .rdTarget => Sys2Proof.Machine.execRdTarget s
  | .rdPrefix => Sys2Proof.Machine.execRdPrefix s
  | .rdLanes => Sys2Proof.Machine.execRdLanes s
  | .rdResult => Sys2Proof.Machine.execRdResult s
  | .rdResultLane => Sys2Proof.Machine.execRdResultLane s
  | .rdLaneMax => Sys2Proof.Machine.execRdLaneMax s
  | .rdRsvd off => Sys2Proof.Machine.execRdRsvd off s
  | .wrId => Sys2Proof.Machine.execWrId s
  | .wrCtrlSet noMatch irqEn => Sys2Proof.Machine.execWrCtrlSet noMatch irqEn s
  | .wrCtrlSrst => Sys2Proof.Machine.execWrCtrlSrst s
  | .wrStatus => Sys2Proof.Machine.execWrStatus s
  | .wrCmdInit => Sys2Proof.Machine.execWrCmdInit s
  | .wrCmdCaptureTarget => Sys2Proof.Machine.execWrCmdCaptureTarget s
  | .wrCmdStart => Sys2Proof.Machine.execWrCmdStart s
  | .wrCmdClearErr => Sys2Proof.Machine.execWrCmdClearErr s
  | .wrCmdAck => Sys2Proof.Machine.execWrCmdAck s
  | .wrData8 b => Sys2Proof.Machine.execWrData8 b s
  | .wrData32 w => Sys2Proof.Machine.execWrData32 w s
  | .wrCrcState v => Sys2Proof.Machine.execWrCrcState v s
  | .wrCrcResult => Sys2Proof.Machine.execWrCrcResult s
  | .wrTarget v => Sys2Proof.Machine.execWrTarget v s
  | .wrPrefix => Sys2Proof.Machine.execWrPrefix s
  | .wrLanes n => Sys2Proof.Machine.execWrLanes n s
  | .wrResult => Sys2Proof.Machine.execWrResult s
  | .wrResultLane => Sys2Proof.Machine.execWrResultLane s
  | .wrLaneMax => Sys2Proof.Machine.execWrLaneMax s
  | .wrRsvd off => Sys2Proof.Machine.execWrRsvd off s

end Sys2Proof.Machine
end

