-- ==== Sys2Proof/Machine/Step.lean ====
section
/-! DEFINITION. One atomic step of the block (spec/20_memory.md R52, R64; spec/30_encoding.md R75). -/

namespace Sys2Proof.Machine

/-- A transaction (R75): the operation its descriptor decodes to, or the effect of a descriptor that matches no row. -/
def runTxn (t : Txn) (s : State) : Out :=
  match decode t with
  | .ok i => exec i s
  | .error e => .next (answerUndecoded e s)

/-- One step: the first event of the agenda, or, with nothing laid out, the search unit's own next step (log entries 2 to
4). An idle block with nothing laid out stays as it is. -/
def step (s : State) : Host.Outcome State Fault Refusal :=
  match s.agenda with
  | [] => .next (unitTurn s)
  | .txn t :: rest => runTxn t { s with agenda := rest }
  | .rst :: rest => .next (resetBlock { s with agenda := rest })
  | .lane i :: rest => .next (laneStep i { s with agenda := rest })
  | .complete :: rest => .next (completionStep { s with agenda := rest })

/-- The state whose very next step is the transaction with the descriptor w, numbered as the opcode table numbers it
(bit i of w is bit i of TXN; a descriptor has 41 bits). The block fetches nothing (R21): the host issues the transaction.
Log entry 2. -/
def State.withFetchWord (s : State) (nbits w : Nat) : State :=
  { s with agenda := .txn (BitVec.ofNat 41 (w % 2 ^ nbits)) :: s.agenda }

end Sys2Proof.Machine
end

