-- ==== Sys2Proof/Machine/Bus.lean ====
section
/-! DEFINITION. The host's side of the bus: MemRead and MemWrite at host addresses (spec/20_memory.md R50, R51;
spec/30_encoding.md R71 to R73) and the pseudo-operations (R83). Log entry 11. -/

namespace Sys2Proof.Machine

/-- The access sizes a host can ask for (R51). -/
inductive AccessSize where
  | byte
  | half
  | word
deriving DecidableEq, Repr

/-- The size code SZ (R72). -/
def sizeCode : AccessSize → BitVec 2
  | .byte => 0b00#2
  | .half => 0b01#2
  | .word => 0b10#2

/-- R50: a transaction reaches the block when its address lies in the window. -/
def inWindow (p : Params) (addr : Nat) : Bool := decide (p.base ≤ addr) && decide (addr < p.base + 64)

/-- The window offset `addr − BASE` (R50). -/
def windowOffset (p : Params) (addr : Nat) : Offset := BitVec.ofNat 6 (addr - p.base)

/-- `MemRead(addr, n)` as a descriptor; none where the address is not the block's concern. -/
def memRead (p : Params) (addr : Nat) (n : AccessSize) : Option Txn :=
  if inWindow p addr then some (mkTxn false (sizeCode n) (windowOffset p addr) 0#32) else none

/-- `MemWrite(addr, n, v)` as a descriptor; none where the address is not the block's concern. -/
def memWrite (p : Params) (addr : Nat) (n : AccessSize) (v : Word) : Option Txn :=
  if inWindow p addr then some (mkTxn true (sizeCode n) (windowOffset p addr) v) else none

/-- Four bytes as the word whose `le32` they are (R83). -/
def wordOfBytes (b0 b1 b2 b3 : Byte) : Word :=
  (b3.setWidth 32 <<< 24) ||| (b2.setWidth 32 <<< 16) ||| (b1.setWidth 32 <<< 8) ||| b0.setWidth 32

/-- `feed bytes` (R83): full groups of four as DATA32, the rest as DATA8. -/
def feedOps : List Byte → List Instr
  | b0 :: b1 :: b2 :: b3 :: rest => .wrData32 (wordOfBytes b0 b1 b2 b3) :: feedOps rest
  | rest => rest.map .wrData8

/-- The pseudo-operations of R83. `wait` is a loop of the host (R142): it is given the number of polls it comes to. -/
inductive Pseudo where
  | init
  | capture
  | start
  | clrerr
  | ack
  | srst
  | feed (bytes : List Byte)
  | crc32 (bytes : List Byte)
  | wait (polls : Nat)
deriving DecidableEq, Repr

/-- The operations a pseudo-operation expands to (R83). -/
def expandPseudo : Pseudo → List Instr
  | .init => [.wrCmdInit]
  | .capture => [.wrCmdCaptureTarget]
  | .start => [.wrCmdStart]
  | .clrerr => [.wrCmdClearErr]
  | .ack => [.wrCmdAck]
  | .srst => [.wrCtrlSrst]
  | .feed bytes => feedOps bytes
  | .crc32 bytes => .wrCmdInit :: (feedOps bytes ++ [.rdCrcResult])
  | .wait polls => List.replicate polls .rdStatus

/-- The events of a sequence of operations, issued in order. -/
def issueOps (ops : List Instr) : List Event := ops.map (fun i => .txn (encode i))

end Sys2Proof.Machine
end

