-- ==== Sys2Proof/Safety.lean ====
section
/-! DEFINITION. The terms of claims: the states that a run can reach, a clean run, the end of a run. -/

namespace Sys2Proof.Machine

/-- The registers hold only what the spec lets them hold: NLANES_MAX lane entries (R40), LANES in 1 to NLANES_MAX (R42), a
defined error code (R31), BUSY and DONE never together (R28), FOUND 0 during a search (R168), the sentinel and lane 0
where nothing is found (R43, R44), a built lane's index where something is, and no active lane outside a search (R129,
R221). -/
abbrev State.Inv (s : State) : Prop :=
  s.laneFile.length = s.params.nlanesMax
  ∧ 1 ≤ s.lanes.toNat ∧ s.lanes.toNat ≤ s.params.nlanesMax
  ∧ s.errcode.toNat ≤ 4
  ∧ ¬ (s.busy = true ∧ s.done = true)
  ∧ (s.busy = true → s.found = false)
  ∧ (s.found = false → s.result = sentinel ∧ s.resultLane = 0#8)
  ∧ (s.found = true → s.resultLane.toNat < s.params.nlanesMax)
  ∧ (s.busy = false → ∀ l ∈ s.laneFile, l.active = false)

/-- The entry of lane i during a search: a lane of the search scans its own range upwards, has tested every tail below
`cur` without a match, and holds a match only of the tail it stopped at (R125 to R128); another lane is inactive. -/
def State.LaneScan (s : State) (i : Nat) (l : Lane) : Prop :=
  if i < s.lanes.toNat then
    l.active = true
    ∧ l.limit.toNat = rangeEnd s.lanes.toNat i
    ∧ rangeStart s.lanes.toNat i ≤ l.cur.toNat
    ∧ l.cur.toNat ≤ l.limit.toNat
    ∧ (∀ v : Nat, rangeStart s.lanes.toNat i ≤ v → v < l.cur.toNat → tailMatches s (BitVec.ofNat 32 v) = false)
    ∧ (l.found = true → l.cur.toNat < l.limit.toNat ∧ l.val = l.cur.setWidth 32 ∧ tailMatches s l.val = true)
  else l.active = false

/-- During a search every lane entry is as its scan so far leaves it. -/
def State.SearchInv (s : State) : Prop :=
  s.busy = true → ∀ (i : Nat) (l : Lane), s.laneFile[i]? = some l → s.LaneScan i l

/-- The lane steps a lane can still take in the running search (R143). -/
def laneRemaining (l : Lane) : Nat := if l.active && !l.found then l.limit.toNat - l.cur.toNat else 0

/-- The lane steps all lanes together can still take (R143). -/
def State.remaining (s : State) : Nat := (s.laneFile.map laneRemaining).sum

/-- The one tail whose checksum after prefix state p is t (R137). -/
def matchingTail (p t : Word) : Word := p ^^^ crcInvStepN 32 (~~~t)

/-- The end of a run (R234): nothing is laid out and the search unit has no enabled step. -/
def State.ended (s : State) : Prop := s.agenda = [] ∧ s.busy = false

/-- The read rows (R79). -/
def isRead : Instr → Bool
  | .rdId | .rdCtrl | .rdStatus | .rdCmd | .rdData8 | .rdData32 | .rdCrcState | .rdCrcResult | .rdTarget | .rdPrefix
  | .rdLanes | .rdResult | .rdResultLane | .rdLaneMax | .rdRsvd _ => true
  | .wrId | .wrCtrlSet _ _ | .wrCtrlSrst | .wrStatus | .wrCmdInit | .wrCmdCaptureTarget | .wrCmdStart | .wrCmdClearErr
  | .wrCmdAck | .wrData8 _ | .wrData32 _ | .wrCrcState _ | .wrCrcResult | .wrTarget _ | .wrPrefix | .wrLanes _
  | .wrResult | .wrResultLane | .wrLaneMax | .wrRsvd _ => false

/-- The write rows that the busy gate refuses during a search (R193). -/
def isGated : Instr → Bool
  | .wrCtrlSet _ _ | .wrData8 _ | .wrData32 _ | .wrCrcState _ | .wrTarget _ | .wrLanes _ | .wrCmdInit
  | .wrCmdCaptureTarget | .wrCmdStart | .wrCmdAck => true
  | .rdId | .rdCtrl | .rdStatus | .rdCmd | .rdData8 | .rdData32 | .rdCrcState | .rdCrcResult | .rdTarget | .rdPrefix
  | .rdLanes | .rdResult | .rdResultLane | .rdLaneMax | .rdRsvd _ => false
  | .wrId | .wrCtrlSrst | .wrStatus | .wrCmdClearErr | .wrCrcResult | .wrPrefix | .wrResult | .wrResultLane | .wrLaneMax
  | .wrRsvd _ => false

/-- The word-aligned offsets whose writes are rejected with RO_WRITE: the set in R75. -/
def readOnlyOffset (off : Offset) : Bool :=
  [0x00#6, 0x08#6, 0x1C#6, 0x24#6, 0x2C#6, 0x30#6, 0x34#6, 0x38#6, 0x3C#6].contains off

/-- R76: the word is one of the five commands: CODE 1 to 5 in bits 7:0 and bits 31:8 zero. -/
def isCommandWord (d : Word) : Prop :=
  1 ≤ (d.extractLsb' 0 8).toNat ∧ (d.extractLsb' 0 8).toNat ≤ 5 ∧ d.extractLsb' 8 24 = 0#24

/-- The last response was not ERROR and no error is recorded: the premise of a claim about a run that makes no error
(spec/93_implementation_defined.md, `fault`). -/
def State.clean (s : State) : Prop := s.errcode = 0#4 ∧ s.reply ≠ .write .error ∧ ∀ v, s.reply ≠ .read v .error

end Sys2Proof.Machine
end

