-- ==== Sys2Proof/Certificates/Slice0/Obligations.lean ====
section
/-! DEFINITION. The statements for the provers. OBLIGATIONS.json says of each its tier, its basis and the rules it
formalises. -/

open Sys2Proof Sys2Proof.Machine

/-! ## Encoding (spec/30_encoding.md) -/

/-- R78, R79: the decoder gives back every well-formed operation, with every operand, from its descriptor. -/
def Obligations.DecodeOfEncodeIsTheOperation : Prop :=
  ∀ i : Instr, i.wellFormed = true → decode (encode i) = .ok i

/-- R79, R84: what a descriptor decodes to is well-formed and is the row it selects; a descriptor that selects a row
decodes to an operation of that row; no descriptor selects two rows; a bad access selects none. -/
def Obligations.DescriptorsSelectTheRowTheyDecodeTo : Prop :=
  (∀ (t : Txn) (i : Instr), decode t = .ok i → i.wellFormed = true ∧ (rowOf i).selectedBy t = true)
  ∧ (∀ (t : Txn) (i : Instr), (rowOf i).selectedBy t = true → ∃ j, decode t = .ok j ∧ rowOf j = rowOf i)
  ∧ (∀ (t : Txn) (i j : Instr), (rowOf i).selectedBy t = true → (rowOf j).selectedBy t = true → rowOf i = rowOf j)
  ∧ (∀ (t : Txn) (i : Instr), accessWellFormed t = false → (rowOf i).selectedBy t = false)

/-- R74: a read with any DATA value decodes to the same operation. -/
def Obligations.ReadDecodingIgnoresData : Prop :=
  ∀ (sz : BitVec 2) (off : Offset) (d d' : Word), decode (mkTxn false sz off d) = decode (mkTxn false sz off d')

/-- R75, R76: exactly the bad reads, the bad writes and the illegal command words match no row. -/
def Obligations.UndecodedDescriptorsAreNamed : Prop :=
  ∀ t : Txn,
    (decode t = .error .badRead ↔ txnWrite t = false ∧ accessWellFormed t = false)
    ∧ (decode t = .error .badWrite ↔ txnWrite t = true ∧ accessWellFormed t = false)
    ∧ (decode t = .error .illegalCommand ↔
        txnWrite t = true ∧ accessWellFormed t = true ∧ txnOff t = 0x0C ∧ ¬ isCommandWord (txnData t))

/-- Descriptors of spec/95_test_vectors.md P1, P2, P4, P6 and V52, written out as numbers. -/
def Obligations.DecodedWordsOfTheSpec : Prop :=
  decode 0x18C00000001 = .ok .wrCmdInit
  ∧ decode 0x19434333231 = .ok (.wrData32 0x34333231)
  ∧ decode 0x19000000039 = .ok (.wrData8 0x39)
  ∧ decode 0x09C00000000 = .ok .rdCrcResult
  ∧ decode 0x1A0FFFFFFFF = .ok (.wrTarget 0xFFFFFFFF)
  ∧ decode 0x18400000004 = .ok (.wrCtrlSet false true)
  ∧ decode 0x18400000001 = .ok .wrCtrlSrst
  ∧ decode 0x0BC00000000 = .ok (.rdRsvd 0x3C)
  ∧ decode 0x18C00000101 = .error .illegalCommand
  ∧ decode 0x05800000000 = .error .badRead
  ∧ decode 0x11000000031 = .error .badWrite

/-- R50, R51, R71 to R73: a host access in the window at BASE, a multiple of 64, becomes the descriptor with its
direction, size code, offset and write data. The model's choice (log entry 11): an access outside the window, which R50
says is not the block's concern, becomes no descriptor at all. -/
def Obligations.HostAccessesBecomeDescriptors : Prop :=
  ∀ (p : Params) (n : AccessSize) (v : Word),
    p.base % 64 = 0
    ∧ (∀ off : Nat, off < 64 →
        (∃ t, memRead p (p.base + off) n = some t ∧ txnWrite t = false ∧ txnSize t = sizeCode n ∧ (txnOff t).toNat = off)
        ∧ (∃ t, memWrite p (p.base + off) n v = some t ∧ txnWrite t = true ∧ txnSize t = sizeCode n
            ∧ (txnOff t).toNat = off ∧ txnData t = v))
    ∧ (∀ addr : Nat, addr < p.base ∨ p.base + 64 ≤ addr → memRead p addr n = none ∧ memWrite p addr n v = none)

/-! ## One transaction (spec/20_memory.md, spec/30_encoding.md R75, spec/60_exceptions.md) -/

/-- R75: the transaction at the head of the agenda is taken off it and its operation is performed. -/
def Obligations.StepRunsTheDecodedOperation : Prop :=
  ∀ (s : State) (t : Txn) (rest : List Event) (i : Instr), s.agenda = .txn t :: rest → decode t = .ok i →
    step s = exec i { s with agenda := rest }

/-- R57: a bad-access read answers 0 with ERROR and changes no state, ERRCODE included. -/
def Obligations.BadReadsAnswerZeroWithError : Prop :=
  ∀ (s : State) (t : Txn) (rest : List Event), s.agenda = .txn t :: rest → txnWrite t = false →
    (txnSize t ≠ 0b10 ∨ (txnOff t).extractLsb' 0 2 ≠ 0) →
    step s = .next { s with agenda := rest, reply := .read 0 .error }

/-- R58: a bad-access write performs Reject(BADACCESS) and changes no register except ERRCODE. -/
def Obligations.BadWritesRecordBadAccess : Prop :=
  ∀ (s : State) (t : Txn) (rest : List Event), s.agenda = .txn t :: rest → txnWrite t = true →
    (txnSize t ≠ 0b10 ∨ (txnOff t).extractLsb' 0 2 ≠ 0) →
    step s = .next { s with
      agenda := rest, errcode := if s.errcode = 0 then 3 else s.errcode, reply := .write .error }

/-- R173: a CMD write whose word is no command is rejected with ILLEGAL_CMD, whether or not a search runs, and changes
nothing but ERRCODE. -/
def Obligations.IllegalCommandWordsAreRejected : Prop :=
  ∀ (s : State) (d : Word) (rest : List Event), s.agenda = .txn (writeTxn 0x0C d) :: rest →
    (d.extractLsb' 0 8 = 0 ∨ 6 ≤ (d.extractLsb' 0 8).toNat ∨ d.extractLsb' 8 24 ≠ 0) →
    step s = .next { s with
      agenda := rest, errcode := if s.errcode = 0 then 2 else s.errcode, reply := .write .error }

/-- R194: a write that fails several checks is rejected with the highest of BADACCESS, RO_WRITE, ILLEGAL_CMD, BUSY. -/
def Obligations.RejectedWritesFollowThePriority : Prop :=
  ∀ (s : State) (t : Txn) (rest : List Event), s.agenda = .txn t :: rest → txnWrite t = true →
    (accessWellFormed t = false →
      step s = .next { s with
        agenda := rest, errcode := if s.errcode = 0 then 3 else s.errcode, reply := .write .error })
    ∧ (accessWellFormed t = true → readOnlyOffset (txnOff t) = true →
      step s = .next { s with
        agenda := rest, errcode := if s.errcode = 0 then 4 else s.errcode, reply := .write .error })
    ∧ (accessWellFormed t = true → txnOff t = 0x0C → ¬ isCommandWord (txnData t) →
      step s = .next { s with
        agenda := rest, errcode := if s.errcode = 0 then 2 else s.errcode, reply := .write .error })
    ∧ (accessWellFormed t = true → readOnlyOffset (txnOff t) = false →
      (txnOff t = 0x0C → isCommandWord (txnData t) ∧ txnData t ≠ 4) →
      (txnOff t = 0x04 → (txnData t).getLsbD 0 = false) → s.busy = true →
      step s = .next { s with
        agenda := rest, errcode := if s.errcode = 0 then 1 else s.errcode, reply := .write .error })

/-- R195: every transaction is answered; ERROR for every rejected write and every bad-access read, OKAY for every other. -/
def Obligations.EveryTransactionIsAnswered : Prop :=
  ∀ (s : State) (t : Txn) (rest : List Event), s.agenda = .txn t :: rest →
    ∃ s', step s = .next s' ∧ s'.agenda = rest
      ∧ (txnWrite t = false → accessWellFormed t = false → s'.reply = .read 0 .error)
      ∧ (txnWrite t = false → accessWellFormed t = true → ∃ v, s'.reply = .read v .okay)
      ∧ (txnWrite t = true →
          (accessWellFormed t = false ∨ readOnlyOffset (txnOff t) = true
            ∨ (txnOff t = 0x0C ∧ ¬ isCommandWord (txnData t))
            ∨ (s.busy = true ∧ ¬ (txnOff t = 0x04 ∧ (txnData t).getLsbD 0 = true)
                ∧ ¬ (txnOff t = 0x0C ∧ txnData t = 4))) →
          s'.reply = .write .error)
      ∧ (txnWrite t = true → accessWellFormed t = true → readOnlyOffset (txnOff t) = false →
          (txnOff t = 0x0C → isCommandWord (txnData t)) →
          (s.busy = false ∨ (txnOff t = 0x04 ∧ (txnData t).getLsbD 0 = true) ∨ (txnOff t = 0x0C ∧ txnData t = 4)) →
          s'.reply = .write .okay)

/-- R59: a well-formed read answers the register at its offset and changes no state; repeated at once, it leaves what it
left the first time. -/
def Obligations.WellFormedReadsHaveNoSideEffects : Prop :=
  ∀ (s : State) (t : Txn) (rest : List Event), s.agenda = .txn t :: rest → txnWrite t = false →
    accessWellFormed t = true →
    step s = .next { s with agenda := rest, reply := .read (windowWord s (txnOff t)) .okay }
    ∧ (∀ rest' : List Event, rest = .txn t :: rest' → ∀ s' s'' : State, step s = .next s' → step s' = .next s'' →
        s'' = { s' with agenda := rest' })

/-- R190, R195, R235: no step of the block faults or refuses, in any state. -/
def Obligations.EveryStepAnswersNext : Prop :=
  ∀ s : State, ∃ t, step s = .next t

/-! ## Reset (spec/70_reset_and_hazards.md) -/

/-- R221: the hardware reset, from any state whatever, sets every piece of state to its reset value; ID and LANE_MAX are
not changed. (The model's own fields, log entries 2, 3 and 5, are no part of the block.) -/
def Obligations.HardwareResetFromAnyState : Prop :=
  ∀ (s : State) (rest : List Event), s.agenda = .rst :: rest →
    ∃ t, step s = .next t
      ∧ t.noMatch = false ∧ t.irqEn = false ∧ t.busy = false ∧ t.done = false ∧ t.found = false ∧ t.errcode = 0
      ∧ t.crcState = 0xFFFFFFFF ∧ t.target = 0 ∧ t.prefixState = 0xFFFFFFFF ∧ t.lanes.toNat = s.params.nlanesMax
      ∧ t.result = 0xFFFFFFFF ∧ t.resultLane = 0
      ∧ t.laneFile.length = s.params.nlanesMax
      ∧ (∀ l ∈ t.laneFile, l = { active := false, cur := 0, limit := 0, found := false, val := 0 })
      ∧ windowWord t 0x1C = 0 ∧ statusWord t = 0 ∧ ctrlWord t = 0 ∧ t.irq = false
      ∧ windowWord t 0x00 = 0x4F435243 ∧ t.params = s.params ∧ windowWord t 0x34 = windowWord s 0x34
      ∧ t.agenda = rest ∧ t.reply = s.reply ∧ t.tick = s.tick

/-- R164: a write to CTRL with bit 0 set, whatever its other bits, resets the block, also during a search. -/
def Obligations.SoftResetFromAnyState : Prop :=
  (∀ d : Word, d.getLsbD 0 = true → decode (writeTxn 0x04 d) = .ok .wrCtrlSrst)
  ∧ ∀ s : State,
    exec .wrCtrlSrst s = .next { s with
      noMatch := false, irqEn := false, busy := false, done := false, found := false, errcode := 0
      crcState := 0xFFFFFFFF, target := 0, prefixState := 0xFFFFFFFF, lanes := BitVec.ofNat 9 s.params.nlanesMax
      result := 0xFFFFFFFF, resultLane := 0
      laneFile := List.replicate s.params.nlanesMax { active := false, cur := 0, limit := 0, found := false, val := 0 }
      reply := .write .okay }

/-- The invariants hold right after reset. -/
def Obligations.ResetMeetsTheInvariants : Prop :=
  State.reset.Inv ∧ State.reset.SearchInv

/-! ## Checksum engine (spec/41_checksum_engine.md) -/

/-- R100: WR_DATA8 feeds DATA[7:0]. -/
def Obligations.WriteData8FeedsOneByte : Prop :=
  (∀ d : Word, decode (writeTxn 0x10 d) = .ok (.wrData8 (d.extractLsb' 0 8)))
  ∧ (∀ (b : Byte) (s : State), s.busy = false →
      exec (.wrData8 b) s = .next { s with crcState := crcUpd s.crcState b, reply := .write .okay })
  ∧ (∀ (b : Byte) (s : State), s.busy = true →
      exec (.wrData8 b) s = .next { s with
        errcode := if s.errcode = 0 then 1 else s.errcode, reply := .write .error })
  ∧ crcUpd 0 0 = 0 ∧ crcUpd 0xFFFFFFFF 0xFF = 0x00FFFFFF ∧ crcUpd 0xFFFFFFFF 0x31 = 0x7C231048

/-- R101: WR_DATA32 feeds the four bytes of the word, least significant first, in one step; the result is that of four
WR_DATA8 writes and of 32 bit-steps. -/
def Obligations.WriteData32FeedsFourBytes : Prop :=
  (∀ d : Word, decode (writeTxn 0x14 d) = .ok (.wrData32 d))
  ∧ (∀ (w : Word) (s : State), s.busy = false →
      exec (.wrData32 w) s = .next { s with crcState := crcFeed s.crcState (le32 w), reply := .write .okay }
      ∧ crcFeed s.crcState (le32 w) = crcStepN 32 (s.crcState ^^^ w)
      ∧ crcFeed s.crcState (le32 w)
          = crcUpd (crcUpd (crcUpd (crcUpd s.crcState (w.extractLsb' 0 8)) (w.extractLsb' 8 8)) (w.extractLsb' 16 8))
              (w.extractLsb' 24 8))
  ∧ (∀ (w : Word) (s : State), s.busy = true →
      exec (.wrData32 w) s = .next { s with
        errcode := if s.errcode = 0 then 1 else s.errcode, reply := .write .error })
  ∧ crcFeed 0xFFFFFFFF (le32 0xFFFFFFFF) = 0 ∧ crcFeed 0xFFFFFFFF (le32 0x00434241) = 0x55595AD3
  ∧ crcFeed 0xFFFFFFFF (le32 0x34333231) = 0x641C1F5C

/-- R102, R105: WR_CRC_STATE loads the raw state and CMD INIT sets it to all-ones; writing a complemented checksum back
resumes the stream it ended, and writing all-ones is INIT. -/
def Obligations.CrcStateIsLoadedAndInitialised : Prop :=
  (∀ d : Word, decode (writeTxn 0x18 d) = .ok (.wrCrcState d)) ∧ decode (writeTxn 0x0C 1) = .ok .wrCmdInit
  ∧ (∀ (v : Word) (s : State), s.busy = false →
      exec (.wrCrcState v) s = .next { s with crcState := v, reply := .write .okay })
  ∧ (∀ s : State, s.busy = false →
      exec .wrCmdInit s = .next { s with crcState := 0xFFFFFFFF, reply := .write .okay })
  ∧ (∀ (v : Word) (s : State), s.busy = true →
      exec (.wrCrcState v) s = .next { s with
        errcode := if s.errcode = 0 then 1 else s.errcode, reply := .write .error }
      ∧ exec .wrCmdInit s = .next { s with
        errcode := if s.errcode = 0 then 1 else s.errcode, reply := .write .error })
  ∧ (∀ s : Word, ~~~(crcFin s) = s) ∧ (∀ s : State, exec (.wrCrcState 0xFFFFFFFF) s = exec .wrCmdInit s)

/-- R103, R104, R106, R107: the engine's reads, in every state. -/
def Obligations.EngineReadsAnswerTheirRegisters : Prop :=
  (∀ d : Word, decode (mkTxn false wordSize 0x18 d) = .ok .rdCrcState
    ∧ decode (mkTxn false wordSize 0x1C d) = .ok .rdCrcResult
    ∧ decode (mkTxn false wordSize 0x10 d) = .ok .rdData8
    ∧ decode (mkTxn false wordSize 0x14 d) = .ok .rdData32)
  ∧ ∀ s : State,
    exec .rdCrcState s = .next { s with reply := .read s.crcState .okay }
    ∧ exec .rdCrcResult s = .next { s with reply := .read (s.crcState ^^^ 0xFFFFFFFF) .okay }
    ∧ exec .rdData8 s = .next { s with reply := .read 0 .okay }
    ∧ exec .rdData32 s = .next { s with reply := .read 0 .okay }
    ∧ (State.resetFor s.params).crcState = 0xFFFFFFFF

/-- R97: the table-driven update is eight bit-steps, and a word feed is 32. -/
def Obligations.TableUpdateIsBitSerial : Prop :=
  (∀ (s : Word) (b : Byte), crcUpd s b = crcStepN 8 (s ^^^ b.setWidth 32))
  ∧ (∀ s v : Word, crcFeed s (le32 v) = crcStepN 32 (s ^^^ v))

/-- R98: Step is a bijection with inverse InvStep, and so are Step^32 and the checksum as a function of the tail. -/
def Obligations.BitStepIsABijection : Prop :=
  (∀ s : Word, crcInvStep (crcStep s) = s) ∧ (∀ y : Word, crcStep (crcInvStep y) = y)
  ∧ Function.Bijective crcStep ∧ Function.Bijective (crcStepN 32)
  ∧ (∀ p : Word, Function.Bijective (fun v : Word => crcFin (crcFeed p (le32 v))))

/-- R109: Upd is jointly linear in the state and the byte. -/
def Obligations.ByteUpdateIsLinear : Prop :=
  ∀ (s1 s2 : Word) (b1 b2 : Byte), crcUpd (s1 ^^^ s2) (b1 ^^^ b2) = crcUpd s1 b1 ^^^ crcUpd s2 b2

/-- R110: a stream fed to an idle block in any split into DATA8 and DATA32 writes gives the state of the whole byte
sequence, and changes nothing else. -/
def Obligations.FeedingIsIndependentOfTheSplit : Prop :=
  (∀ (s : Word) (a b : List Byte), crcFeed s (a ++ b) = crcFeed (crcFeed s a) b)
  ∧ (∀ (original injection : List Byte) (v : Word),
      checksum (original ++ injection ++ le32 v)
        = crcFin (crcFeed (crcFeed crcInit (original ++ injection)) (le32 v)))
  ∧ ∀ (s : State) (ops : List Instr) (rest : List Event), s.busy = false →
      (∀ i ∈ ops, (∃ b, i = .wrData8 b) ∨ (∃ w, i = .wrData32 w)) →
      ∃ r, Host.Core.run Sys2Proof.core ops.length { s with agenda := issueOps ops ++ rest }
        = .next { s with agenda := rest, crcState := crcFeed s.crcState (ops.flatMap fedBytes), reply := r }

/-- R111: on an idle block the procedure init, feed, read returns Checksum(bytes), whatever the state before. -/
def Obligations.ChecksumProcedureReturnsTheChecksum : Prop :=
  ∀ (s : State) (bytes : List Byte) (rest : List Event), s.busy = false →
    Host.Core.run Sys2Proof.core (expandPseudo (.crc32 bytes)).length
      { s with agenda := issueOps (expandPseudo (.crc32 bytes)) ++ rest }
      = .next { s with
          agenda := rest, crcState := crcFeed 0xFFFFFFFF bytes, reply := .read (checksum bytes) .okay }

/-- R96: the checksum of a sequence, with the two values the source gives. -/
def Obligations.ChecksumCheckValues : Prop :=
  (∀ bytes : List Byte, checksum bytes = crcFeed 0xFFFFFFFF bytes ^^^ 0xFFFFFFFF)
  ∧ checksum [] = 0
  ∧ checksum [0x31, 0x32, 0x33, 0x34, 0x35, 0x36, 0x37, 0x38, 0x39] = 0xCBF43926

/-! ## Search registers (spec/42_collision_search.md sections 1 and 5) -/

/-- R120, R122: TARGET is written directly or captured from the engine, and the sentinel tail matches the target of all
ones after an empty prefix. -/
def Obligations.TargetIsWrittenAndCaptured : Prop :=
  (∀ d : Word, decode (writeTxn 0x20 d) = .ok (.wrTarget d)) ∧ decode (writeTxn 0x0C 2) = .ok .wrCmdCaptureTarget
  ∧ (∀ (v : Word) (s : State), s.busy = false →
      exec (.wrTarget v) s = .next { s with target := v, reply := .write .okay })
  ∧ (∀ s : State, s.busy = false →
      exec .wrCmdCaptureTarget s = .next { s with target := s.crcState ^^^ 0xFFFFFFFF, reply := .write .okay })
  ∧ (∀ (v : Word) (s : State), s.busy = true →
      exec (.wrTarget v) s = .next { s with
        errcode := if s.errcode = 0 then 1 else s.errcode, reply := .write .error }
      ∧ exec .wrCmdCaptureTarget s = .next { s with
        errcode := if s.errcode = 0 then 1 else s.errcode, reply := .write .error })
  ∧ crcFin (crcFeed 0xFFFFFFFF (le32 0xFFFFFFFF)) = 0xFFFFFFFF

/-- R123: WR_LANES legalises the whole word: 0 becomes 1, a value above NLANES_MAX becomes NLANES_MAX. -/
def Obligations.WorkerCountIsLegalised : Prop :=
  (∀ d : Word, decode (writeTxn 0x28 d) = .ok (.wrLanes d))
  ∧ (∀ (d : Word) (s : State), s.busy = false →
      ∃ n : BitVec 9, exec (.wrLanes d) s = .next { s with lanes := n, reply := .write .okay }
        ∧ (d = 0 → n.toNat = 1)
        ∧ (1 ≤ d.toNat → d.toNat ≤ s.params.nlanesMax → n.toNat = d.toNat)
        ∧ (s.params.nlanesMax < d.toNat → n.toNat = s.params.nlanesMax))
  ∧ (∀ (d : Word) (s : State), s.busy = true →
      exec (.wrLanes d) s = .next { s with
        errcode := if s.errcode = 0 then 1 else s.errcode, reply := .write .error })

/-- R121, R124, R130, R132, R134: the search unit's reads, in every state. -/
def Obligations.SearchReadsAnswerTheirRegisters : Prop :=
  (∀ d : Word, decode (mkTxn false wordSize 0x20 d) = .ok .rdTarget
    ∧ decode (mkTxn false wordSize 0x28 d) = .ok .rdLanes
    ∧ decode (mkTxn false wordSize 0x24 d) = .ok .rdPrefix
    ∧ decode (mkTxn false wordSize 0x2C d) = .ok .rdResult
    ∧ decode (mkTxn false wordSize 0x30 d) = .ok .rdResultLane)
  ∧ ∀ s : State,
    exec .rdTarget s = .next { s with reply := .read s.target .okay }
    ∧ exec .rdLanes s = .next { s with reply := .read (BitVec.ofNat 32 s.lanes.toNat) .okay }
    ∧ exec .rdPrefix s = .next { s with reply := .read s.prefixState .okay }
    ∧ exec .rdResult s = .next { s with reply := .read s.result .okay }
    ∧ exec .rdResultLane s = .next { s with reply := .read (BitVec.ofNat 32 s.resultLane.toNat) .okay }

/-- R136: CMD ACK clears DONE, and irq falls with it; FOUND, RESULT and RESULT_LANE stay. -/
def Obligations.AcknowledgeClearsDone : Prop :=
  decode (writeTxn 0x0C 5) = .ok .wrCmdAck
  ∧ (∀ s : State, s.busy = false →
      exec .wrCmdAck s = .next { s with done := false, reply := .write .okay }
      ∧ ∀ t : State, exec .wrCmdAck s = .next t → t.irq = false)
  ∧ (∀ s : State, s.busy = true →
      exec .wrCmdAck s = .next { s with
        errcode := if s.errcode = 0 then 1 else s.errcode, reply := .write .error })

/-- R108, R131, R133, R135, R161, R165, R170, R172: a write to a read-only register or a reserved slot is rejected with
RO_WRITE in every state, whatever its data, and changes nothing but ERRCODE. -/
def Obligations.ReadOnlyWritesAreRejected : Prop :=
  (∀ d : Word, decode (writeTxn 0x1C d) = .ok .wrCrcResult ∧ decode (writeTxn 0x24 d) = .ok .wrPrefix
    ∧ decode (writeTxn 0x2C d) = .ok .wrResult ∧ decode (writeTxn 0x30 d) = .ok .wrResultLane
    ∧ decode (writeTxn 0x00 d) = .ok .wrId ∧ decode (writeTxn 0x08 d) = .ok .wrStatus
    ∧ decode (writeTxn 0x34 d) = .ok .wrLaneMax
    ∧ decode (writeTxn 0x38 d) = .ok (.wrRsvd 0x38) ∧ decode (writeTxn 0x3C d) = .ok (.wrRsvd 0x3C))
  ∧ ∀ (s : State) (off : Offset) (i : Instr),
    i ∈ [.wrCrcResult, .wrPrefix, .wrResult, .wrResultLane, .wrId, .wrStatus, .wrLaneMax, .wrRsvd off] →
    exec i s = .next { s with errcode := if s.errcode = 0 then 4 else s.errcode, reply := .write .error }

/-! ## The search (spec/42_collision_search.md sections 2 to 6) -/

/-- R140: the ranges of T workers are contiguous, non-empty and cover every tail exactly once. -/
def Obligations.PartitionCoversEveryTailOnce : Prop :=
  ∀ t : Nat, 1 ≤ t → t ≤ 256 →
    rangeStart t 0 = 0 ∧ rangeEnd t (t - 1) = 2 ^ 32
    ∧ (∀ i, i + 1 < t → rangeEnd t i = rangeStart t (i + 1))
    ∧ (∀ i, i < t → rangeStart t i < rangeEnd t i)
    ∧ (∀ i, i + 1 < t → rangeEnd t i - rangeStart t i = (2 ^ 32 + t - 1) / t)
    ∧ rangeEnd t (t - 1) - rangeStart t (t - 1) = 2 ^ 32 - (t - 1) * ((2 ^ 32 + t - 1) / t)
    ∧ 1 ≤ 2 ^ 32 - (t - 1) * ((2 ^ 32 + t - 1) / t)
    ∧ 2 ^ 32 - (t - 1) * ((2 ^ 32 + t - 1) / t) ≤ (2 ^ 32 + t - 1) / t
    ∧ (∀ v, v < 2 ^ 32 → ∀ i, i < t →
        (rangeStart t i ≤ v ∧ v < rangeEnd t i ↔ i = v / ((2 ^ 32 + t - 1) / t)))
    ∧ (∀ v, v < 2 ^ 32 → v / ((2 ^ 32 + t - 1) / t) < t)
    ∧ (∀ i, i < t → rangeStart t i = i * ((2 ^ 32 + t - 1) / t))
    ∧ (∀ i, i + 1 < t → rangeEnd t i = (i + 1) * ((2 ^ 32 + t - 1) / t))

/-- R126: an accepted START snapshots the prefix, gives each of the T lanes its range and clears the old result; during a
search it is rejected. -/
def Obligations.StartBeginsASearch : Prop :=
  decode (writeTxn 0x0C 3) = .ok .wrCmdStart
  ∧ (∀ s : State, s.busy = false →
      ∃ t, exec .wrCmdStart s = .next t
        ∧ t = { s with
            laneFile := t.laneFile, prefixState := s.crcState, busy := true, done := false, found := false
            result := 0xFFFFFFFF, resultLane := 0, reply := .write .okay }
        ∧ t.laneFile.length = s.laneFile.length
        ∧ (∀ (i : Nat) (l : Lane), t.laneFile[i]? = some l →
            (i < s.lanes.toNat → l = {
              active := true
              cur := BitVec.ofNat 33 (min (i * ((2 ^ 32 + s.lanes.toNat - 1) / s.lanes.toNat)) (2 ^ 32))
              limit := BitVec.ofNat 33 (min ((i + 1) * ((2 ^ 32 + s.lanes.toNat - 1) / s.lanes.toNat)) (2 ^ 32))
              found := false, val := 0 })
            ∧ (s.lanes.toNat ≤ i → l.active = false)))
  ∧ (∀ s : State, s.busy = true →
      exec .wrCmdStart s = .next { s with
        errcode := if s.errcode = 0 then 1 else s.errcode, reply := .write .error })

/-- R127: an enabled lane step tests the lane's next tail and writes only that lane's entry. -/
def Obligations.LaneStepTestsOneTail : Prop :=
  ∀ (s : State) (i : Nat) (l : Lane) (rest : List Event), s.agenda = .lane i :: rest → s.laneFile[i]? = some l →
    s.busy = true → l.active = true → l.found = false → l.cur.toNat < l.limit.toNat →
    (crcFin (crcFeed s.prefixState (le32 (l.cur.setWidth 32))) = s.target ∧ s.noMatch = false →
      step s = .next { s with
        agenda := rest, laneFile := s.laneFile.set i { l with found := true, val := l.cur.setWidth 32 } })
    ∧ (¬ (crcFin (crcFeed s.prefixState (le32 (l.cur.setWidth 32))) = s.target ∧ s.noMatch = false) →
      step s = .next { s with agenda := rest, laneFile := s.laneFile.set i { l with cur := l.cur + 1 } }
      ∧ (l.cur + 1).toNat = l.cur.toNat + 1)

/-- R129: the enabled completion step selects the lowest-indexed lane that matched, whatever the others hold, and ends the
search. -/
def Obligations.CompletionSelectsTheLowestLane : Prop :=
  ∀ (s : State) (rest : List Event), s.agenda = .complete :: rest → s.busy = true →
    (∀ l ∈ s.laneFile, l.active = false ∨ l.found = true ∨ l.cur = l.limit) →
    (∀ (k : Nat) (l : Lane), s.laneFile[k]? = some l → l.active = true → l.found = true →
      (∀ (j : Nat) (m : Lane), j < k → s.laneFile[j]? = some m → ¬ (m.active = true ∧ m.found = true)) →
      step s = .next { s with
        agenda := rest, found := true, result := l.val, resultLane := BitVec.ofNat 8 k
        laneFile := s.laneFile.map (fun m => { m with active := false }), busy := false, done := true })
    ∧ ((∀ l ∈ s.laneFile, ¬ (l.active = true ∧ l.found = true)) →
      step s = .next { s with
        agenda := rest, found := false, result := 0xFFFFFFFF, resultLane := 0
        laneFile := s.laneFile.map (fun m => { m with active := false }), busy := false, done := true })

/-- The model's choice (log entry 4): a unit step that is laid out but not enabled changes nothing. That a finished lane
has no enabled lane step is R128's. -/
def Obligations.DisabledUnitStepsChangeNothing : Prop :=
  (∀ (s : State) (i : Nat) (rest : List Event), s.agenda = .lane i :: rest →
    (∀ l : Lane, s.laneFile[i]? = some l →
      s.busy = false ∨ l.active = false ∨ l.found = true ∨ l.limit.toNat ≤ l.cur.toNat) →
    step s = .next { s with agenda := rest })
  ∧ (∀ (s : State) (rest : List Event), s.agenda = .complete :: rest →
    (s.busy = false ∨ ∃ l ∈ s.laneFile, l.active = true ∧ l.found = false ∧ l.cur ≠ l.limit) →
    step s = .next { s with agenda := rest })

/-- The model's choice (log entries 3 and 4): with nothing laid out, the search unit takes the step of some enabled lane,
else the completion step if that is enabled, and an idle block stays as it is. -/
def Obligations.UnitMovesWhenNothingIsLaidOut : Prop :=
  ∀ s : State, s.agenda = [] →
    (∀ i, laneEnabledAt s i = true →
      ∃ j, laneEnabledAt s j = true ∧ step s = .next { laneStep j s with tick := s.tick + 1 })
    ∧ ((∀ i, laneEnabledAt s i = false) → completionEnabled s = true → step s = .next (completeSearch s))
    ∧ (s.busy = false → step s = .next s)

/-- The register invariant is kept by every step, from every state. -/
def Obligations.EveryStepKeepsTheStateInvariant : Prop :=
  ∀ s t : State, s.Inv → step s = .next t → t.Inv

/-- The search invariant is kept by every step, from every state: no lane skips a tail, leaves its range or reports a tail
that does not match. -/
def Obligations.EveryStepKeepsTheSearchInvariant : Prop :=
  ∀ s t : State, s.SearchInv → step s = .next t → t.SearchInv

/-- R137, first part: exactly one tail matches, and it is the closed form. -/
def Obligations.ExactlyOneTailMatches : Prop :=
  ∀ p t : Word,
    crcFin (crcFeed p (le32 (p ^^^ crcInvStepN 32 (~~~t)))) = t
    ∧ ∀ v : Word, crcFin (crcFeed p (le32 v)) = t → v = p ^^^ crcInvStepN 32 (~~~t)

/-- R134, R137: the completion step of a search reports the one matching tail and the lane whose range holds it, or, with
NOMATCH, that nothing was found. -/
def Obligations.CompletionReportsTheMatchingTail : Prop :=
  ∀ (s : State) (rest : List Event), s.Inv → s.SearchInv → completionEnabled s = true →
    s.agenda = .complete :: rest →
    ∃ t, step s = .next t ∧ t.busy = false ∧ t.done = true
      ∧ (s.noMatch = false →
          t.found = true ∧ t.result = matchingTail s.prefixState s.target
          ∧ t.resultLane.toNat = t.result.toNat / rangeSize s.lanes.toNat)
      ∧ (s.noMatch = true → t.found = false ∧ t.result = 0xFFFFFFFF ∧ t.resultLane = 0)

/-- R139: when the prefix is original and injection and the target is the checksum of the original, the buffer that ends
in the reported tail has the original's checksum. -/
def Obligations.SearchContractHolds : Prop :=
  ∀ (s : State) (rest : List Event) (original injection : List Byte), s.Inv → s.SearchInv →
    completionEnabled s = true → s.agenda = .complete :: rest → s.noMatch = false →
    s.target = checksum original → s.prefixState = crcFeed 0xFFFFFFFF (original ++ injection) →
    ∃ t, step s = .next t ∧ t.found = true
      ∧ checksum (original ++ injection ++ le32 t.result) = checksum original
      ∧ (original ++ injection ++ le32 t.result).length = original.length + injection.length + 4

/-- R143's bound on lane steps, under the model's choice (log entries 3 and 9) that a running search with nothing laid out
takes an enabled unit step at every step, where R143 and R233 assume weak fairness: the search completes within one
completion step and at most 2^32 lane steps. -/
def Obligations.EverySearchCompletes : Prop :=
  ∀ s : State, s.Inv → s.SearchInv → s.busy = true → s.agenda = [] →
    s.remaining ≤ 2 ^ 32
    ∧ ∃ (n : Nat) (t : State), n ≤ s.remaining + 1 ∧ Host.Core.run Sys2Proof.core n s = .next t
        ∧ t.busy = false ∧ t.done = true

/-- R137: a search started on an idle block ends with DONE, and with the one matching tail of the engine's state and
TARGET found, or, with NOMATCH, with nothing found. That it ends within the bounds of R143 counted in the model's steps
rests on the model's choice (log entries 3 and 9) that a running search with nothing laid out takes an enabled unit step
at every step, where R143 and R233 assume weak fairness. -/
def Obligations.StartedSearchFindsTheMatchingTail : Prop :=
  ∀ s : State, s.Inv → s.busy = false → s.agenda = [.txn (encode .wrCmdStart)] →
    ∃ (n : Nat) (t : State), n ≤ 2 ^ 32 + 2 ∧ Host.Core.run Sys2Proof.core n s = .next t
      ∧ t.busy = false ∧ t.done = true ∧ t.prefixState = s.crcState ∧ t.crcState = s.crcState ∧ t.target = s.target
      ∧ t.errcode = s.errcode
      ∧ (s.noMatch = false →
          t.found = true ∧ t.result = matchingTail s.crcState s.target
          ∧ t.resultLane.toNat = t.result.toNat / rangeSize s.lanes.toNat)
      ∧ (s.noMatch = true → t.found = false ∧ t.result = 0xFFFFFFFF ∧ t.resultLane = 0)

/-- R138, U5: two lane steps may be taken in either order. -/
def Obligations.LaneStepsCommute : Prop :=
  ∀ (s : State) (i j : Nat) (rest : List Event),
    Host.Core.run Sys2Proof.core 2 { s with agenda := .lane i :: .lane j :: rest }
      = Host.Core.run Sys2Proof.core 2 { s with agenda := .lane j :: .lane i :: rest }

/-- R138: two runs of one search that differ only in the order and number of unit steps laid out, and both end the
search, end with the same FOUND, RESULT and RESULT_LANE. -/
def Obligations.ResultIsIndependentOfTheSchedule : Prop :=
  ∀ (s : State) (es1 es2 : List Event) (t1 t2 : State), s.Inv → s.SearchInv → s.busy = true →
    (∀ e ∈ es1, e = .complete ∨ ∃ i, e = .lane i) → (∀ e ∈ es2, e = .complete ∨ ∃ i, e = .lane i) →
    Host.Core.run Sys2Proof.core es1.length { s with agenda := es1 } = .next t1 →
    Host.Core.run Sys2Proof.core es2.length { s with agenda := es2 } = .next t2 →
    t1.busy = false → t2.busy = false →
    t1.found = t2.found ∧ t1.result = t2.result ∧ t1.resultLane = t2.resultLane

/-- R141: a search ends only by a reset, which leaves no result and no DONE, or by the completion step after every lane
has finished. -/
def Obligations.OnlyResetOrCompletionEndsASearch : Prop :=
  ∀ s t : State, s.busy = true → step s = .next t → t.busy = false →
    (((∃ rest, s.agenda = .rst :: rest) ∨ (∃ d rest, s.agenda = .txn d :: rest ∧ decode d = .ok .wrCtrlSrst))
      ∧ t.done = false ∧ t.found = false ∧ t.result = 0xFFFFFFFF)
    ∨ ((s.agenda = [] ∨ ∃ rest, s.agenda = .complete :: rest)
      ∧ (∀ l ∈ s.laneFile, l.active = false ∨ l.found = true ∨ l.cur = l.limit) ∧ t.done = true)

/-- R138, R193: while a search goes on, no step changes what its lane steps read, nor the engine's state, LANES or CTRL. -/
def Obligations.SearchInputsAreFixedDuringASearch : Prop :=
  ∀ s t : State, s.busy = true → step s = .next t → t.busy = true →
    t.prefixState = s.prefixState ∧ t.target = s.target ∧ t.noMatch = s.noMatch ∧ t.irqEn = s.irqEn
    ∧ t.crcState = s.crcState ∧ t.lanes = s.lanes ∧ t.done = s.done ∧ t.found = s.found ∧ t.result = s.result
    ∧ t.resultLane = s.resultLane

/-- R193: the busy gate refuses the ten gated writes during a search and nothing else ever. -/
def Obligations.BusyGateRefusesExactlyTheGatedWrites : Prop :=
  (∀ (i : Instr) (s : State), isGated i = true → s.busy = true →
    exec i s = .next { s with errcode := if s.errcode = 0 then 1 else s.errcode, reply := .write .error })
  ∧ (∀ (i : Instr) (s : State), isGated i = true → s.busy = false →
    ∃ t, exec i s = .next t ∧ t.reply = .write .okay ∧ t.errcode = s.errcode)
  ∧ (∀ s : State, ∃ t, exec .wrCtrlSrst s = .next t ∧ t.reply = .write .okay)
  ∧ (∀ s : State, ∃ t, exec .wrCmdClearErr s = .next t ∧ t.reply = .write .okay)
  ∧ (∀ (i : Instr) (s : State), isRead i = true → ∃ v, exec i s = .next { s with reply := .read v .okay })

/-! ## Control, status and errors (spec/43_control_status.md, spec/60_exceptions.md) -/

/-- R162, R163: CTRL is set from bits 1 and 2 and read back there; irq follows IRQEN at once. -/
def Obligations.CtrlIsSetAndReadBack : Prop :=
  (∀ d : Word, d.getLsbD 0 = false → decode (writeTxn 0x04 d) = .ok (.wrCtrlSet (d.getLsbD 1) (d.getLsbD 2)))
  ∧ (∀ (nm ie : Bool) (s : State), s.busy = false →
      exec (.wrCtrlSet nm ie) s = .next { s with noMatch := nm, irqEn := ie, reply := .write .okay }
      ∧ ∀ t : State, exec (.wrCtrlSet nm ie) s = .next t → t.irq = (s.done && ie))
  ∧ (∀ (nm ie : Bool) (s : State), s.busy = true →
      exec (.wrCtrlSet nm ie) s = .next { s with
        errcode := if s.errcode = 0 then 1 else s.errcode, reply := .write .error })
  ∧ (∀ d : Word, decode (mkTxn false wordSize 0x04 d) = .ok .rdCtrl)
  ∧ (∀ s : State, ∃ w : Word, exec .rdCtrl s = .next { s with reply := .read w .okay }
      ∧ w.getLsbD 0 = false ∧ w.getLsbD 1 = s.noMatch ∧ w.getLsbD 2 = s.irqEn ∧ w.extractLsb' 3 29 = 0)

/-- R168, with the bit layout of STATUS (R27 to R33): every bit of the word a read of STATUS answers. -/
def Obligations.StatusReadShowsEveryFlag : Prop :=
  (∀ d : Word, decode (mkTxn false wordSize 0x08 d) = .ok .rdStatus)
  ∧ ∀ s : State, ∃ w : Word, exec .rdStatus s = .next { s with reply := .read w .okay }
      ∧ w.getLsbD 0 = s.busy ∧ w.getLsbD 1 = s.done ∧ w.getLsbD 2 = s.found
      ∧ (w.getLsbD 3 = true ↔ s.errcode ≠ 0) ∧ w.extractLsb' 4 4 = s.errcode
      ∧ w.getLsbD 8 = (s.done && s.irqEn) ∧ w.extractLsb' 9 23 = 0
      ∧ (s.Inv → ¬ (w.getLsbD 0 = true ∧ w.getLsbD 1 = true) ∧ (w.getLsbD 0 = true → w.getLsbD 2 = false))

/-- R160, R166, R169, R171: the constant reads, in every state. -/
def Obligations.ConstantReadsAnswerTheirConstants : Prop :=
  (∀ d : Word, decode (mkTxn false wordSize 0x00 d) = .ok .rdId ∧ decode (mkTxn false wordSize 0x0C d) = .ok .rdCmd
    ∧ decode (mkTxn false wordSize 0x34 d) = .ok .rdLaneMax
    ∧ decode (mkTxn false wordSize 0x38 d) = .ok (.rdRsvd 0x38)
    ∧ decode (mkTxn false wordSize 0x3C d) = .ok (.rdRsvd 0x3C))
  ∧ ∀ (s : State) (off : Offset),
    exec .rdId s = .next { s with reply := .read 0x4F435243 .okay }
    ∧ exec .rdCmd s = .next { s with reply := .read 0 .okay }
    ∧ exec .rdLaneMax s = .next { s with reply := .read (BitVec.ofNat 32 s.params.nlanesMax) .okay }
    ∧ exec (.rdRsvd off) s = .next { s with reply := .read 0 .okay }

/-- R167: CMD CLEAR_ERR clears ERRCODE, hence ERR, in every state, and changes nothing else. -/
def Obligations.ClearErrorClearsTheRecordedError : Prop :=
  decode (writeTxn 0x0C 4) = .ok .wrCmdClearErr
  ∧ ∀ s : State, exec .wrCmdClearErr s = .next { s with errcode := 0, reply := .write .okay }
    ∧ ∀ t : State, exec .wrCmdClearErr s = .next t → t.errFlag = false

/-- R191, R196: ERRCODE changes from 0 to a defined code by a rejected write, and back to 0 by CLEAR_ERR, SRST or reset,
and in no other way. -/
def Obligations.FirstErrorIsKeptUntilCleared : Prop :=
  (∀ s t : State, step s = .next t → t.errcode ≠ s.errcode →
    (s.errcode = 0 ∧ 1 ≤ t.errcode.toNat ∧ t.errcode.toNat ≤ 4 ∧ t.reply = .write .error)
    ∨ (t.errcode = 0
      ∧ ((∃ rest, s.agenda = .rst :: rest)
        ∨ ∃ d rest, s.agenda = .txn d :: rest ∧ (decode d = .ok .wrCtrlSrst ∨ decode d = .ok .wrCmdClearErr))))
  ∧ (∀ (s : State) (d : Txn) (rest : List Event),
      (s.agenda = .rst :: rest ∨ (s.agenda = .txn d :: rest
        ∧ (decode d = .ok .wrCtrlSrst ∨ decode d = .ok .wrCmdClearErr))) →
      ∃ t, step s = .next t ∧ t.errcode = 0)

/-- R28, R197, R198: DONE rises only at an enabled completion step and falls only by START, ACK, SRST or reset; so irq
rises only then, or when a write to CTRL sets IRQEN. -/
def Obligations.CompletionIsTheOnlyInterruptSource : Prop :=
  ∀ s t : State, step s = .next t →
    (s.done = false → t.done = true →
      (s.agenda = [] ∨ ∃ rest, s.agenda = .complete :: rest) ∧ completionEnabled s = true)
    ∧ (s.done = true → t.done = false →
      (∃ rest, s.agenda = .rst :: rest)
      ∨ ∃ d rest, s.agenda = .txn d :: rest
          ∧ (decode d = .ok .wrCtrlSrst ∨ decode d = .ok .wrCmdAck ∨ decode d = .ok .wrCmdStart))
    ∧ (s.irq = false → t.irq = true →
      ((s.agenda = [] ∨ ∃ rest, s.agenda = .complete :: rest) ∧ completionEnabled s = true ∧ s.irqEn = true)
      ∨ ∃ d rest nm, s.agenda = .txn d :: rest ∧ decode d = .ok (.wrCtrlSet nm true) ∧ s.done = true)

/-- R22, R45, R221: no step changes the parameters or the hardwired registers. -/
def Obligations.ParametersAreHardwired : Prop :=
  ∀ s t : State, step s = .next t →
    t.params = s.params ∧ windowWord t 0x00 = 0x4F435243 ∧ windowWord t 0x34 = windowWord s 0x34
end

