-- ==== Sys2Proof/Laws/Decode.lean ====
section
/-! SUPPORT. The fields of a descriptor, and what the decoder can answer. -/

namespace Sys2Proof

/-- Bit i of a descriptor, by the field it stands in (R70). -/
theorem getLsbD_mkTxn (w : Bool) (sz : BitVec 2) (off : Offset) (d : Word) (i : Nat) :
    (mkTxn w sz off d).getLsbD i =
      if i < 32 then d.getLsbD i
      else if i < 38 then off.getLsbD (i - 32)
      else if i < 40 then sz.getLsbD (i - 38)
      else decide (i = 40) && w := by
  have hd : 32 ≤ i → d.getLsbD i = false := fun h => BitVec.getLsbD_of_ge d i h
  have ho : 6 ≤ i - 32 → off.getLsbD (i - 32) = false := fun h => BitVec.getLsbD_of_ge off _ h
  have hs : 2 ≤ i - 38 → sz.getLsbD (i - 38) = false := fun h => BitVec.getLsbD_of_ge sz _ h
  have hw : 1 ≤ i - 40 → (BitVec.ofBool w).getLsbD (i - 40) = false := fun h => BitVec.getLsbD_of_ge _ _ h
  simp only [mkTxn, BitVec.getLsbD_or, BitVec.getLsbD_shiftLeft, BitVec.getLsbD_setWidth]
  by_cases h1 : i < 32
  · simp [h1, show i < 41 by omega, show i < 40 by omega, show i < 38 by omega]
  · by_cases h2 : i < 38
    · simp [h1, h2, hd (by omega), show i < 41 by omega, show i < 40 by omega, show i - 32 < 41 by omega]
    · by_cases h3 : i < 40
      · simp [h1, h2, h3, hd (by omega), ho (by omega), show i < 41 by omega, show i - 38 < 41 by omega]
      · by_cases h4 : i = 40
        · subst h4
          simp
        · simp [h1, h2, h3, h4, show ¬ i < 41 by omega]

@[simp] theorem txnWrite_mkTxn (w : Bool) (sz : BitVec 2) (off : Offset) (d : Word) :
    txnWrite (mkTxn w sz off d) = w := by
  rw [txnWrite, getLsbD_mkTxn]
  simp

@[simp] theorem txnSize_mkTxn (w : Bool) (sz : BitVec 2) (off : Offset) (d : Word) :
    txnSize (mkTxn w sz off d) = sz := by
  apply BitVec.eq_of_getLsbD_eq
  intro i hi
  simp [txnSize, getLsbD_mkTxn, hi, show ¬ 38 + i < 32 by omega, show 38 + i < 40 by omega]

@[simp] theorem txnOff_mkTxn (w : Bool) (sz : BitVec 2) (off : Offset) (d : Word) :
    txnOff (mkTxn w sz off d) = off := by
  apply BitVec.eq_of_getLsbD_eq
  intro i hi
  simp [txnOff, getLsbD_mkTxn, hi, show 32 + i < 38 by omega]

@[simp] theorem txnData_mkTxn (w : Bool) (sz : BitVec 2) (off : Offset) (d : Word) :
    txnData (mkTxn w sz off d) = d := by
  apply BitVec.eq_of_getLsbD_eq
  intro i hi
  simp [txnData, getLsbD_mkTxn, hi]

@[simp] theorem accessWellFormed_mkTxn (w : Bool) (sz : BitVec 2) (off : Offset) (d : Word) :
    accessWellFormed (mkTxn w sz off d) = (sz == wordSize && off.extractLsb' 0 2 == 0#2) := by
  simp [accessWellFormed]

/-- A descriptor is its four fields (R70). -/
theorem mkTxn_fields (t : Txn) : mkTxn (txnWrite t) (txnSize t) (txnOff t) (txnData t) = t := by
  apply BitVec.eq_of_getLsbD_eq
  intro i hi
  rw [getLsbD_mkTxn]
  split
  · next h => simp [txnData, h]
  · split
    · simp [txnOff, show i - 32 < 6 by omega, show 32 + (i - 32) = i by omega]
    · split
      · simp [txnSize, show i - 38 < 2 by omega, show 38 + (i - 38) = i by omega]
      · obtain rfl : i = 40 := by omega
        simp [txnWrite]

/-- The decoder's first split (R75). -/
theorem decode_cases (t : Txn) :
    (accessWellFormed t = true ∧ txnWrite t = true ∧ decode t = decodeWrite (txnOff t) (txnData t))
    ∨ (accessWellFormed t = true ∧ txnWrite t = false ∧ decode t = decodeRead (txnOff t))
    ∨ (accessWellFormed t = false ∧ txnWrite t = true ∧ decode t = .error .badWrite)
    ∨ (accessWellFormed t = false ∧ txnWrite t = false ∧ decode t = .error .badRead) := by
  cases h : accessWellFormed t <;> cases w : txnWrite t <;> simp [decode, h, w]

/-- A write at a word-aligned offset is decoded by its offset and data. -/
theorem decode_writeTxn (off : Offset) (d : Word) (h : off.extractLsb' 0 2 = 0#2) :
    decode (writeTxn off d) = decodeWrite off d := by
  simp [decode, writeTxn, h]

/-- A whole-word read at a word-aligned offset is decoded by its offset. -/
theorem decode_wordRead (off : Offset) (d : Word) (h : off.extractLsb' 0 2 = 0#2) :
    decode (mkTxn false wordSize off d) = decodeRead off := by
  simp [decode, h]

/-- The set bits of a descriptor under a row's mask, field by field. -/
theorem mkTxn_and (w w' : Bool) (sz sz' : BitVec 2) (off off' : Offset) (d d' : Word) :
    mkTxn w sz off d &&& mkTxn w' sz' off' d' = mkTxn (w && w') (sz &&& sz') (off &&& off') (d &&& d') := by
  apply BitVec.eq_of_getLsbD_eq
  intro i hi
  simp only [BitVec.getLsbD_and, getLsbD_mkTxn]
  split
  · rfl
  · split
    · rfl
    · split
      · rfl
      · cases decide (i = 40) <;> simp

end Sys2Proof
end

