-- ==== Sys2Proof/Laws/State.lean ====
section
/-! SUPPORT. What each named update of the state does to each field: one lemma a field, so that no proof unfolds a record
update. -/

namespace Sys2Proof.Machine

variable (s : State)

/-! ### answerRead -/

@[simp] theorem answerRead_params (v : Word) : (answerRead v s).params = s.params := rfl
@[simp] theorem answerRead_noMatch (v : Word) : (answerRead v s).noMatch = s.noMatch := rfl
@[simp] theorem answerRead_irqEn (v : Word) : (answerRead v s).irqEn = s.irqEn := rfl
@[simp] theorem answerRead_busy (v : Word) : (answerRead v s).busy = s.busy := rfl
@[simp] theorem answerRead_done (v : Word) : (answerRead v s).done = s.done := rfl
@[simp] theorem answerRead_found (v : Word) : (answerRead v s).found = s.found := rfl
@[simp] theorem answerRead_errcode (v : Word) : (answerRead v s).errcode = s.errcode := rfl
@[simp] theorem answerRead_crcState (v : Word) : (answerRead v s).crcState = s.crcState := rfl
@[simp] theorem answerRead_target (v : Word) : (answerRead v s).target = s.target := rfl
@[simp] theorem answerRead_prefixState (v : Word) : (answerRead v s).prefixState = s.prefixState := rfl
@[simp] theorem answerRead_lanes (v : Word) : (answerRead v s).lanes = s.lanes := rfl
@[simp] theorem answerRead_result (v : Word) : (answerRead v s).result = s.result := rfl
@[simp] theorem answerRead_resultLane (v : Word) : (answerRead v s).resultLane = s.resultLane := rfl
@[simp] theorem answerRead_laneFile (v : Word) : (answerRead v s).laneFile = s.laneFile := rfl
@[simp] theorem answerRead_reply (v : Word) : (answerRead v s).reply = .read v .okay := rfl
@[simp] theorem answerRead_agenda (v : Word) : (answerRead v s).agenda = s.agenda := rfl
@[simp] theorem answerRead_tick (v : Word) : (answerRead v s).tick = s.tick := rfl

/-! ### answerWrite -/

@[simp] theorem answerWrite_params : (answerWrite s).params = s.params := rfl
@[simp] theorem answerWrite_noMatch : (answerWrite s).noMatch = s.noMatch := rfl
@[simp] theorem answerWrite_irqEn : (answerWrite s).irqEn = s.irqEn := rfl
@[simp] theorem answerWrite_busy : (answerWrite s).busy = s.busy := rfl
@[simp] theorem answerWrite_done : (answerWrite s).done = s.done := rfl
@[simp] theorem answerWrite_found : (answerWrite s).found = s.found := rfl
@[simp] theorem answerWrite_errcode : (answerWrite s).errcode = s.errcode := rfl
@[simp] theorem answerWrite_crcState : (answerWrite s).crcState = s.crcState := rfl
@[simp] theorem answerWrite_target : (answerWrite s).target = s.target := rfl
@[simp] theorem answerWrite_prefixState : (answerWrite s).prefixState = s.prefixState := rfl
@[simp] theorem answerWrite_lanes : (answerWrite s).lanes = s.lanes := rfl
@[simp] theorem answerWrite_result : (answerWrite s).result = s.result := rfl
@[simp] theorem answerWrite_resultLane : (answerWrite s).resultLane = s.resultLane := rfl
@[simp] theorem answerWrite_laneFile : (answerWrite s).laneFile = s.laneFile := rfl
@[simp] theorem answerWrite_reply : (answerWrite s).reply = .write .okay := rfl
@[simp] theorem answerWrite_agenda : (answerWrite s).agenda = s.agenda := rfl
@[simp] theorem answerWrite_tick : (answerWrite s).tick = s.tick := rfl

/-! ### answerBadRead -/

@[simp] theorem answerBadRead_params : (answerBadRead s).params = s.params := rfl
@[simp] theorem answerBadRead_noMatch : (answerBadRead s).noMatch = s.noMatch := rfl
@[simp] theorem answerBadRead_irqEn : (answerBadRead s).irqEn = s.irqEn := rfl
@[simp] theorem answerBadRead_busy : (answerBadRead s).busy = s.busy := rfl
@[simp] theorem answerBadRead_done : (answerBadRead s).done = s.done := rfl
@[simp] theorem answerBadRead_found : (answerBadRead s).found = s.found := rfl
@[simp] theorem answerBadRead_errcode : (answerBadRead s).errcode = s.errcode := rfl
@[simp] theorem answerBadRead_crcState : (answerBadRead s).crcState = s.crcState := rfl
@[simp] theorem answerBadRead_target : (answerBadRead s).target = s.target := rfl
@[simp] theorem answerBadRead_prefixState : (answerBadRead s).prefixState = s.prefixState := rfl
@[simp] theorem answerBadRead_lanes : (answerBadRead s).lanes = s.lanes := rfl
@[simp] theorem answerBadRead_result : (answerBadRead s).result = s.result := rfl
@[simp] theorem answerBadRead_resultLane : (answerBadRead s).resultLane = s.resultLane := rfl
@[simp] theorem answerBadRead_laneFile : (answerBadRead s).laneFile = s.laneFile := rfl
@[simp] theorem answerBadRead_reply : (answerBadRead s).reply = .read 0#32 .error := rfl
@[simp] theorem answerBadRead_agenda : (answerBadRead s).agenda = s.agenda := rfl
@[simp] theorem answerBadRead_tick : (answerBadRead s).tick = s.tick := rfl

/-! ### reject -/

@[simp] theorem reject_params (c : RejectCode) : (reject c s).params = s.params := rfl
@[simp] theorem reject_noMatch (c : RejectCode) : (reject c s).noMatch = s.noMatch := rfl
@[simp] theorem reject_irqEn (c : RejectCode) : (reject c s).irqEn = s.irqEn := rfl
@[simp] theorem reject_busy (c : RejectCode) : (reject c s).busy = s.busy := rfl
@[simp] theorem reject_done (c : RejectCode) : (reject c s).done = s.done := rfl
@[simp] theorem reject_found (c : RejectCode) : (reject c s).found = s.found := rfl
@[simp] theorem reject_errcode (c : RejectCode) : (reject c s).errcode = if s.errcode = 0#4 then rejectCode c else s.errcode := rfl
@[simp] theorem reject_crcState (c : RejectCode) : (reject c s).crcState = s.crcState := rfl
@[simp] theorem reject_target (c : RejectCode) : (reject c s).target = s.target := rfl
@[simp] theorem reject_prefixState (c : RejectCode) : (reject c s).prefixState = s.prefixState := rfl
@[simp] theorem reject_lanes (c : RejectCode) : (reject c s).lanes = s.lanes := rfl
@[simp] theorem reject_result (c : RejectCode) : (reject c s).result = s.result := rfl
@[simp] theorem reject_resultLane (c : RejectCode) : (reject c s).resultLane = s.resultLane := rfl
@[simp] theorem reject_laneFile (c : RejectCode) : (reject c s).laneFile = s.laneFile := rfl
@[simp] theorem reject_reply (c : RejectCode) : (reject c s).reply = .write .error := rfl
@[simp] theorem reject_agenda (c : RejectCode) : (reject c s).agenda = s.agenda := rfl
@[simp] theorem reject_tick (c : RejectCode) : (reject c s).tick = s.tick := rfl

/-! ### resetBlock -/

@[simp] theorem resetBlock_params : (resetBlock s).params = s.params := rfl
@[simp] theorem resetBlock_noMatch : (resetBlock s).noMatch = false := rfl
@[simp] theorem resetBlock_irqEn : (resetBlock s).irqEn = false := rfl
@[simp] theorem resetBlock_busy : (resetBlock s).busy = false := rfl
@[simp] theorem resetBlock_done : (resetBlock s).done = false := rfl
@[simp] theorem resetBlock_found : (resetBlock s).found = false := rfl
@[simp] theorem resetBlock_errcode : (resetBlock s).errcode = 0#4 := rfl
@[simp] theorem resetBlock_crcState : (resetBlock s).crcState = 0xFFFFFFFF#32 := rfl
@[simp] theorem resetBlock_target : (resetBlock s).target = 0#32 := rfl
@[simp] theorem resetBlock_prefixState : (resetBlock s).prefixState = 0xFFFFFFFF#32 := rfl
@[simp] theorem resetBlock_lanes : (resetBlock s).lanes = BitVec.ofNat 9 s.params.nlanesMax := rfl
@[simp] theorem resetBlock_result : (resetBlock s).result = sentinel := rfl
@[simp] theorem resetBlock_resultLane : (resetBlock s).resultLane = 0#8 := rfl
@[simp] theorem resetBlock_laneFile : (resetBlock s).laneFile = List.replicate s.params.nlanesMax Lane.reset := rfl
@[simp] theorem resetBlock_reply : (resetBlock s).reply = s.reply := rfl
@[simp] theorem resetBlock_agenda : (resetBlock s).agenda = s.agenda := rfl
@[simp] theorem resetBlock_tick : (resetBlock s).tick = s.tick := rfl

/-! ### startSearch -/

@[simp] theorem startSearch_params : (startSearch s).params = s.params := rfl
@[simp] theorem startSearch_noMatch : (startSearch s).noMatch = s.noMatch := rfl
@[simp] theorem startSearch_irqEn : (startSearch s).irqEn = s.irqEn := rfl
@[simp] theorem startSearch_busy : (startSearch s).busy = true := rfl
@[simp] theorem startSearch_done : (startSearch s).done = false := rfl
@[simp] theorem startSearch_found : (startSearch s).found = false := rfl
@[simp] theorem startSearch_errcode : (startSearch s).errcode = s.errcode := rfl
@[simp] theorem startSearch_crcState : (startSearch s).crcState = s.crcState := rfl
@[simp] theorem startSearch_target : (startSearch s).target = s.target := rfl
@[simp] theorem startSearch_prefixState : (startSearch s).prefixState = s.crcState := rfl
@[simp] theorem startSearch_lanes : (startSearch s).lanes = s.lanes := rfl
@[simp] theorem startSearch_result : (startSearch s).result = sentinel := rfl
@[simp] theorem startSearch_resultLane : (startSearch s).resultLane = 0#8 := rfl
@[simp] theorem startSearch_laneFile : (startSearch s).laneFile = s.laneFile.mapIdx (startLane s.lanes.toNat) := rfl
@[simp] theorem startSearch_reply : (startSearch s).reply = s.reply := rfl
@[simp] theorem startSearch_agenda : (startSearch s).agenda = s.agenda := rfl
@[simp] theorem startSearch_tick : (startSearch s).tick = s.tick := rfl

/-! ### completeSearch -/

@[simp] theorem completeSearch_params : (completeSearch s).params = s.params := rfl
@[simp] theorem completeSearch_noMatch : (completeSearch s).noMatch = s.noMatch := rfl
@[simp] theorem completeSearch_irqEn : (completeSearch s).irqEn = s.irqEn := rfl
@[simp] theorem completeSearch_busy : (completeSearch s).busy = false := rfl
@[simp] theorem completeSearch_done : (completeSearch s).done = true := rfl
@[simp] theorem completeSearch_found : (completeSearch s).found = (firstWinner 0 s.laneFile).isSome := rfl
@[simp] theorem completeSearch_errcode : (completeSearch s).errcode = s.errcode := rfl
@[simp] theorem completeSearch_crcState : (completeSearch s).crcState = s.crcState := rfl
@[simp] theorem completeSearch_target : (completeSearch s).target = s.target := rfl
@[simp] theorem completeSearch_prefixState : (completeSearch s).prefixState = s.prefixState := rfl
@[simp] theorem completeSearch_lanes : (completeSearch s).lanes = s.lanes := rfl
@[simp] theorem completeSearch_result : (completeSearch s).result = ((firstWinner 0 s.laneFile).map Prod.snd).getD sentinel := rfl
@[simp] theorem completeSearch_resultLane : (completeSearch s).resultLane = BitVec.ofNat 8 (((firstWinner 0 s.laneFile).map Prod.fst).getD 0) := rfl
@[simp] theorem completeSearch_laneFile : (completeSearch s).laneFile = s.laneFile.map (fun l => { l with active := false }) := rfl
@[simp] theorem completeSearch_reply : (completeSearch s).reply = s.reply := rfl
@[simp] theorem completeSearch_agenda : (completeSearch s).agenda = s.agenda := rfl
@[simp] theorem completeSearch_tick : (completeSearch s).tick = s.tick := rfl

end Sys2Proof.Machine
end

