-- ==== Sys2Proof/Laws/Ops.lean ====
section
/-! SUPPORT. What each shared operation can do. -/

namespace Sys2Proof.Machine

/-- The gate while a search runs (R193). -/
theorem gatedWrite_of_busy (f : State → State) (s : State) (h : s.busy = true) :
    gatedWrite f s = .next (reject .busy s) := by
  simp [gatedWrite, h]

/-- The gate while no search runs (R193). -/
theorem gatedWrite_of_idle (f : State → State) (s : State) (h : s.busy = false) :
    gatedWrite f s = .next (answerWrite (f s)) := by
  simp [gatedWrite, h]

/-- All a gated write can do. -/
theorem gatedWrite_cases (f : State → State) (s t : State) (h : gatedWrite f s = .next t) :
    (s.busy = true ∧ t = reject .busy s) ∨ (s.busy = false ∧ t = answerWrite (f s)) := by
  cases hb : s.busy
  · rw [gatedWrite_of_idle f s hb] at h
    exact .inr ⟨rfl, (Host.Outcome.next.inj h).symm⟩
  · rw [gatedWrite_of_busy f s hb] at h
    exact .inl ⟨rfl, (Host.Outcome.next.inj h).symm⟩

/-- A recorded code is one of R192's. -/
theorem rejectCode_range (c : RejectCode) : 1 ≤ (rejectCode c).toNat ∧ (rejectCode c).toNat ≤ 4 := by
  cases c <;> decide

/-- A rejection keeps the first error and a defined code (R191, R192). -/
theorem reject_errcode_le (c : RejectCode) (s : State) (h : s.errcode.toNat ≤ 4) : (reject c s).errcode.toNat ≤ 4 := by
  rw [reject_errcode]
  split
  · exact (rejectCode_range c).2
  · exact h

/-- What a descriptor that matches no row does: a bad read, or a rejection with BADACCESS or ILLEGAL_CMD. -/
theorem answerUndecoded_cases (e : DecodeError) (s : State) :
    answerUndecoded e s = answerBadRead s ∨ ∃ c, answerUndecoded e s = reject c s := by
  cases e
  · exact .inl rfl
  · exact .inr ⟨_, rfl⟩
  · exact .inr ⟨_, rfl⟩

end Sys2Proof.Machine
end

