-- ==== Sys2Proof/Laws/PerInstr.lean ====
section
/-! SUPPORT. The family EncodingRow: the descriptor an operation encodes to selects the operation's row of the opcode table
(spec/30_encoding.md R84). One lemma per constructor. -/

namespace Sys2Proof.Laws.EncodingRow

/-- The encoded descriptor of a well-formed operation selects the operation's row. -/
def Statement (i : Instr) : Prop := i.wellFormed = true → (rowOf i).selectedBy (encode i) = true

/-- A whole-word write selects every row that looks at its offset alone and finds it there. -/
theorem selectedBy_writeTxn {r : Row} {off : Offset} {d : Word} (hm : r.mask = mkTxn true 3#2 0x3F#6 0#32)
    (hb : r.bits = mkTxn true wordSize off 0#32) : r.selectedBy (writeTxn off d) = true := by
  have hoff : off &&& 0x3F#6 = off := BitVec.and_allOnes
  have hsz : wordSize &&& 3#2 = wordSize := by decide
  simp only [Row.selectedBy, hm, hb, writeTxn, mkTxn_and, hoff, hsz, BitVec.and_zero, Bool.and_self, beq_self_eq_true]

/-- The two reserved slots (R62). -/
theorem reservedSlot_cases {off : Offset} (h : reservedSlot off = true) : off = 0x38#6 ∨ off = 0x3C#6 := by
  simpa [reservedSlot] using h

theorem rdId : Statement .rdId := fun _ => by decide

theorem rdCtrl : Statement .rdCtrl := fun _ => by decide

theorem rdStatus : Statement .rdStatus := fun _ => by decide

theorem rdCmd : Statement .rdCmd := fun _ => by decide

theorem rdData8 : Statement .rdData8 := fun _ => by decide

theorem rdData32 : Statement .rdData32 := fun _ => by decide

theorem rdCrcState : Statement .rdCrcState := fun _ => by decide

theorem rdCrcResult : Statement .rdCrcResult := fun _ => by decide

theorem rdTarget : Statement .rdTarget := fun _ => by decide

theorem rdPrefix : Statement .rdPrefix := fun _ => by decide

theorem rdLanes : Statement .rdLanes := fun _ => by decide

theorem rdResult : Statement .rdResult := fun _ => by decide

theorem rdResultLane : Statement .rdResultLane := fun _ => by decide

theorem rdLaneMax : Statement .rdLaneMax := fun _ => by decide

theorem rdRsvd (off : Offset) : Statement (.rdRsvd off) := by
  intro h
  rcases reservedSlot_cases h with rfl | rfl <;> decide

theorem wrId : Statement .wrId := fun _ => by decide

theorem wrCtrlSet (noMatch irqEn : Bool) : Statement (.wrCtrlSet noMatch irqEn) := by
  cases noMatch <;> cases irqEn <;> exact fun _ => by decide

theorem wrCtrlSrst : Statement .wrCtrlSrst := fun _ => by decide

theorem wrStatus : Statement .wrStatus := fun _ => by decide

theorem wrCmdInit : Statement .wrCmdInit := fun _ => by decide

theorem wrCmdCaptureTarget : Statement .wrCmdCaptureTarget := fun _ => by decide

theorem wrCmdStart : Statement .wrCmdStart := fun _ => by decide

theorem wrCmdClearErr : Statement .wrCmdClearErr := fun _ => by decide

theorem wrCmdAck : Statement .wrCmdAck := fun _ => by decide

theorem wrData8 (b : Byte) : Statement (.wrData8 b) :=
  fun _ => selectedBy_writeTxn rfl rfl

theorem wrData32 (w : Word) : Statement (.wrData32 w) :=
  fun _ => selectedBy_writeTxn rfl rfl

theorem wrCrcState (v : Word) : Statement (.wrCrcState v) :=
  fun _ => selectedBy_writeTxn rfl rfl

theorem wrCrcResult : Statement .wrCrcResult := fun _ => by decide

theorem wrTarget (v : Word) : Statement (.wrTarget v) :=
  fun _ => selectedBy_writeTxn rfl rfl

theorem wrPrefix : Statement .wrPrefix := fun _ => by decide

theorem wrLanes (n : Word) : Statement (.wrLanes n) :=
  fun _ => selectedBy_writeTxn rfl rfl

theorem wrResult : Statement .wrResult := fun _ => by decide

theorem wrResultLane : Statement .wrResultLane := fun _ => by decide

theorem wrLaneMax : Statement .wrLaneMax := fun _ => by decide

theorem wrRsvd (off : Offset) : Statement (.wrRsvd off) := by
  intro h
  rcases reservedSlot_cases h with rfl | rfl <;> decide

end Sys2Proof.Laws.EncodingRow
end

