-- ==== Sys2Proof/Laws/SearchUnit.lean ====
section
/-! SUPPORT. What the search unit's own steps can do. -/

namespace Sys2Proof.Machine

/-- The comparator reads nothing but PREFIX, TARGET and NOMATCH (R127). -/
theorem tailMatches_congr {s t : State} (hp : t.prefixState = s.prefixState) (ht : t.target = s.target)
    (hn : t.noMatch = s.noMatch) (v : Word) : tailMatches t v = tailMatches s v := by
  simp [tailMatches, hp, ht, hn]

/-- All a lane step can do: nothing, or one test by an enabled lane. -/
theorem laneStep_cases (i : Nat) (s : State) :
    (laneEnabledAt s i = false ∧ laneStep i s = s)
    ∨ ∃ l, s.laneFile[i]? = some l ∧ laneEnabled s l = true ∧ laneEnabledAt s i = true
        ∧ laneStep i s = { s with laneFile := s.laneFile.set i (testTail s l) } := by
  cases h : s.laneFile[i]? with
  | none => exact .inl ⟨by simp [laneEnabledAt, h], by simp [laneStep, h]⟩
  | some l =>
    cases he : laneEnabled s l with
    | false => exact .inl ⟨by simp [laneEnabledAt, h, he], by simp [laneStep, h, he]⟩
    | true => exact .inr ⟨l, rfl, he, by simp [laneEnabledAt, h, he], by simp [laneStep, h, he]⟩

/-- The conditions of an enabled lane step (R127). -/
theorem laneEnabled_iff (s : State) (l : Lane) :
    laneEnabled s l = true ↔ s.busy = true ∧ l.active = true ∧ l.found = false ∧ l.cur.toNat < l.limit.toNat := by
  simp [laneEnabled, and_assoc, BitVec.lt_def]

/-- All the completion step can do: nothing, or `Complete()`. -/
theorem completionStep_cases (s : State) :
    (completionEnabled s = false ∧ completionStep s = s)
    ∨ (completionEnabled s = true ∧ completionStep s = completeSearch s) := by
  cases h : completionEnabled s <;> simp [completionStep, h]

/-- The conditions of the completion step (R128, R129). -/
theorem completionEnabled_iff (s : State) :
    completionEnabled s = true
      ↔ s.busy = true ∧ ∀ l ∈ s.laneFile, l.active = false ∨ l.found = true ∨ l.cur = l.limit := by
  simp [completionEnabled, laneFinished, or_assoc]

theorem mem_enabledLanes (s : State) (i : Nat) : i ∈ enabledLanes s ↔ laneEnabledAt s i = true := by
  simp only [enabledLanes, List.mem_filter, List.mem_range, and_iff_right_iff_imp]
  intro h
  unfold laneEnabledAt at h
  by_contra hi
  rw [List.getElem?_eq_none (by omega)] at h
  simp at h

/-- All the search unit can do of itself: one enabled lane's step, or, with none enabled, the completion step. -/
theorem unitTurn_cases (s : State) :
    (∃ i, laneEnabledAt s i = true ∧ unitTurn s = { laneStep i s with tick := s.tick + 1 })
    ∨ ((∀ i, laneEnabledAt s i = false) ∧ unitTurn s = completionStep s) := by
  unfold unitTurn
  split
  next i h =>
    exact .inl ⟨i, (mem_enabledLanes s i).mp (List.mem_of_getElem? h), rfl⟩
  next h =>
    refine .inr ⟨fun i => ?_, rfl⟩
    by_contra hi
    have hmem := (mem_enabledLanes s i).mpr (by simpa using hi)
    have hpos : 0 < (enabledLanes s).length := List.length_pos_of_mem hmem
    rw [List.getElem?_eq_none_iff] at h
    exact absurd (Nat.mod_lt (Config.freeLane s.tick) hpos) (by omega)

/-- The lane file's length is kept by a start. -/
@[simp] theorem startSearch_laneFile_length (s : State) :
    (startSearch s).laneFile.length = s.laneFile.length := by simp

/-- The winner found is an active lane that matched, and none before it is (R129). -/
theorem firstWinner_some {ls : List Lane} {i k : Nat} {v : Word} (h : firstWinner i ls = some (k, v)) :
    ∃ l, i ≤ k ∧ ls[k - i]? = some l ∧ l.active = true ∧ l.found = true ∧ l.val = v
      ∧ ∀ (j : Nat) (m : Lane), j < k - i → ls[j]? = some m → ¬ (m.active = true ∧ m.found = true) := by
  induction ls generalizing i with
  | nil => simp [firstWinner] at h
  | cons l rest ih =>
    by_cases hl : l.active = true ∧ l.found = true
    · simp only [firstWinner, hl, Bool.and_self, if_true, Option.some.injEq, Prod.mk.injEq] at h
      obtain ⟨rfl, rfl⟩ := h
      exact ⟨l, Nat.le_refl _, by simp, hl.1, hl.2, rfl, by simp⟩
    · have hl' : (l.active && l.found) = false := by simpa using hl
      simp only [firstWinner, hl', Bool.false_eq_true, if_false] at h
      obtain ⟨m, hle, hm, ha, hf, hv, hbefore⟩ := ih h
      refine ⟨m, by omega, ?_, ha, hf, hv, ?_⟩
      · rw [show k - i = (k - (i + 1)) + 1 by omega, List.getElem?_cons_succ]
        exact hm
      · intro j n hj hn
        cases j with
        | zero =>
          simp only [List.getElem?_cons_zero, Option.some.injEq] at hn
          exact hn ▸ hl
        | succ j =>
          rw [List.getElem?_cons_succ] at hn
          exact hbefore j n (by omega) hn

/-- There is no winner exactly when no active lane has matched (R129). -/
theorem firstWinner_none {ls : List Lane} {i : Nat} :
    firstWinner i ls = none ↔ ∀ l ∈ ls, ¬ (l.active = true ∧ l.found = true) := by
  induction ls generalizing i with
  | nil => simp [firstWinner]
  | cons l rest ih =>
    by_cases hl : l.active = true ∧ l.found = true
    · simp [firstWinner, hl]
    · have hl' : (l.active && l.found) = false := by simpa using hl
      simp only [firstWinner, hl', Bool.false_eq_true, if_false, List.mem_cons, forall_eq_or_imp]
      exact ⟨fun h => ⟨hl, ih.mp h⟩, fun h => ih.mpr h.2⟩

end Sys2Proof.Machine
end

