-- ==== Sys2Proof/Laws/Step.lean ====
section
/-! SUPPORT. What a meaning and a step can do: the inversion lemmas that later proofs cite. -/

namespace Sys2Proof.Machine

/-- The effect of a gated write that is accepted (R193). -/
inductive GatedEffect (s : State) : Instr → State → Prop where
  | data8 (b : Byte) : GatedEffect s (.wrData8 b) { s with crcState := crcUpd s.crcState b }
  | data32 (w : Word) : GatedEffect s (.wrData32 w) { s with crcState := crcFeed s.crcState (le32 w) }
  | crcState (v : Word) : GatedEffect s (.wrCrcState v) { s with crcState := v }
  | init : GatedEffect s .wrCmdInit { s with crcState := crcInit }
  | target (v : Word) : GatedEffect s (.wrTarget v) { s with target := v }
  | capture : GatedEffect s .wrCmdCaptureTarget { s with target := crcFin s.crcState }
  | lanes (n : Word) : GatedEffect s (.wrLanes n) { s with lanes := legalLanes s.params.nlanesMax n }
  | ctrl (noMatch irqEn : Bool) : GatedEffect s (.wrCtrlSet noMatch irqEn) { s with noMatch := noMatch, irqEn := irqEn }
  | start : GatedEffect s .wrCmdStart (startSearch s)
  | ack : GatedEffect s .wrCmdAck { s with done := false }

/-- Everything an operation can do to the state. -/
inductive Effect (s : State) : Instr → State → Prop where
  | read (i : Instr) (v : Word) : Effect s i (answerRead v s)
  | refusedBusy (i : Instr) : s.busy = true → Effect s i (reject .busy s)
  | refusedReadOnly (i : Instr) : Effect s i (reject .roWrite s)
  | accepted (i : Instr) (t : State) : s.busy = false → GatedEffect s i t → Effect s i (answerWrite t)
  | softReset : Effect s .wrCtrlSrst (answerWrite (resetBlock s))
  | clearErr : Effect s .wrCmdClearErr (answerWrite { s with errcode := 0#4 })

theorem effect_of_gatedWrite {f : State → State} {s t : State} {i : Instr} (h : gatedWrite f s = .next t)
    (hf : GatedEffect s i (f s)) : Effect s i t := by
  rcases gatedWrite_cases f s t h with ⟨hb, rfl⟩ | ⟨hb, rfl⟩
  · exact .refusedBusy i hb
  · exact .accepted i _ hb hf

theorem effect_of_readAs {v : Word} {s t : State} {i : Instr} (h : readAs v s = .next t) : Effect s i t :=
  Host.Outcome.next.inj h ▸ .read i v

theorem effect_of_readOnlyWrite {s t : State} {i : Instr} (h : readOnlyWrite s = .next t) : Effect s i t :=
  Host.Outcome.next.inj h ▸ .refusedReadOnly i

/-- All an operation can do, given that it answers a next state. -/
theorem exec_effect (i : Instr) (s t : State) (h : exec i s = .next t) : Effect s i t := by
  cases i with
  | rdId | rdCtrl | rdStatus | rdCmd | rdData8 | rdData32 | rdCrcState | rdCrcResult | rdTarget | rdPrefix | rdLanes
  | rdResult | rdResultLane | rdLaneMax | rdRsvd => exact effect_of_readAs h
  | wrId | wrStatus | wrCrcResult | wrPrefix | wrResult | wrResultLane | wrLaneMax | wrRsvd =>
    exact effect_of_readOnlyWrite h
  | wrCtrlSet nm ie =>
    rw [exec, execWrCtrlSet] at h
    exact effect_of_gatedWrite h (.ctrl nm ie)
  | wrCtrlSrst => exact Host.Outcome.next.inj h ▸ .softReset
  | wrCmdInit =>
    rw [exec, execWrCmdInit] at h
    exact effect_of_gatedWrite h .init
  | wrCmdCaptureTarget =>
    rw [exec, execWrCmdCaptureTarget] at h
    exact effect_of_gatedWrite h .capture
  | wrCmdStart =>
    rw [exec, execWrCmdStart] at h
    exact effect_of_gatedWrite h .start
  | wrCmdClearErr => exact Host.Outcome.next.inj h ▸ .clearErr
  | wrCmdAck =>
    rw [exec, execWrCmdAck] at h
    exact effect_of_gatedWrite h .ack
  | wrData8 b =>
    rw [exec, execWrData8] at h
    exact effect_of_gatedWrite h (.data8 b)
  | wrData32 w =>
    rw [exec, execWrData32] at h
    exact effect_of_gatedWrite h (.data32 w)
  | wrCrcState v =>
    rw [exec, execWrCrcState] at h
    exact effect_of_gatedWrite h (.crcState v)
  | wrTarget v =>
    rw [exec, execWrTarget] at h
    exact effect_of_gatedWrite h (.target v)
  | wrLanes n =>
    rw [exec, execWrLanes] at h
    exact effect_of_gatedWrite h (.lanes n)

/-- All a step can do, given that it answers a next state. -/
theorem step_cases (s t : State) (h : step s = .next t) :
    (s.agenda = [] ∧ t = unitTurn s)
    ∨ (∃ d rest i, s.agenda = .txn d :: rest ∧ decode d = .ok i ∧ Effect { s with agenda := rest } i t)
    ∨ (∃ d rest e, s.agenda = .txn d :: rest ∧ decode d = .error e ∧ t = answerUndecoded e { s with agenda := rest })
    ∨ (∃ rest, s.agenda = .rst :: rest ∧ t = resetBlock { s with agenda := rest })
    ∨ (∃ i rest, s.agenda = .lane i :: rest ∧ t = laneStep i { s with agenda := rest })
    ∨ (∃ rest, s.agenda = .complete :: rest ∧ t = completionStep { s with agenda := rest }) := by
  unfold step at h
  split at h
  next ha => exact .inl ⟨ha, (Host.Outcome.next.inj h).symm⟩
  next d rest ha =>
    unfold runTxn at h
    split at h
    next i hd => exact .inr (.inl ⟨d, rest, i, ha, hd, exec_effect i _ t h⟩)
    next e hd => exact .inr (.inr (.inl ⟨d, rest, e, ha, hd, (Host.Outcome.next.inj h).symm⟩))
  next rest ha => exact .inr (.inr (.inr (.inl ⟨rest, ha, (Host.Outcome.next.inj h).symm⟩)))
  next i rest ha => exact .inr (.inr (.inr (.inr (.inl ⟨i, rest, ha, (Host.Outcome.next.inj h).symm⟩))))
  next rest ha => exact .inr (.inr (.inr (.inr (.inr ⟨rest, ha, (Host.Outcome.next.inj h).symm⟩))))

end Sys2Proof.Machine
end

