-- ==== Sys2Proof/Tests/Slice0.lean ====
section
/-! SUPPORT. Tests: expected values are the spec's own (spec/95_test_vectors.md, named V<n>, and the examples of the rules),
and a witness for the hypotheses of each statement. -/

namespace Sys2Proof.Tests

-- One theorem after another: checked side by side, their kernel evaluations take a thread's stack each.
set_option Elab.async false

open Sys2Proof Sys2Proof.Machine

/-! ## States -/

/-- NLANES_MAX = 8, the premise of the spec's vectors. -/
def p8 : Params := { lanesMinusOne := 7, window := 2 }

/-- NLANES_MAX = 1. -/
def p1 : Params := { lanesMinusOne := 0, window := 0 }

/-- The premise state of spec/95_test_vectors.md. -/
def idle8 : State := State.resetFor p8

/-- One lane at its first tail, 0, which matches the target (V21). -/
def busy1 : State :=
  { State.resetFor p1 with
    busy := true, target := 0x2144DF1C
    laneFile := [{ active := true, cur := 0, limit := 0x100000000, found := false, val := 0 }] }

/-- The same search after the matching lane step. -/
def won1 : State :=
  { busy1 with laneFile := [{ active := true, cur := 0, limit := 0x100000000, found := true, val := 0 }] }

/-- A search with NOMATCH whose one lane has reached the end of its range. -/
def lost1 : State :=
  { busy1 with
    noMatch := true
    laneFile := [{ active := true, cur := 0x100000000, limit := 0x100000000, found := false, val := 0 }] }

/-- The one lane at its last tail, 0xFFFFFFFF, which matches the target (V33). -/
def last1 : State :=
  { busy1 with
    target := 0xFFFFFFFF
    laneFile := [{ active := true, cur := 0xFFFFFFFF, limit := 0x100000000, found := false, val := 0 }] }

/-- After a found and unacknowledged search with IRQEN. -/
def done8 : State := { idle8 with done := true, found := true, irqEn := true, result := 0x833E4DCC, resultLane := 4 }

/-- The state with the transaction t at the head of the agenda. -/
def issue (t : Txn) (s : State) : State := { s with agenda := [.txn t] }

/-- The next state, or the same state where there is none. -/
def next (s : State) : State :=
  match step s with
  | .next t => t
  | .fault _ => s
  | .refused _ => s

/-- One transaction from a state. -/
def after (t : Txn) (s : State) : State := next (issue t s)

/-! ## Well-formedness -/

theorem test_reserved_slot_check_refuses :
    (Instr.rdRsvd 0x34).wellFormed = false ∧ (Instr.wrRsvd 0x00).wellFormed = false
    ∧ (Instr.rdRsvd 0x38).wellFormed = true ∧ (Instr.wrRsvd 0x3C).wellFormed = true := by decide

/-- R56: SZ 0b00, 0b01, 0b11 and the three misalignments. -/
theorem test_access_check_refuses :
    accessWellFormed 0x00800000000 = false ∧ accessWellFormed 0x05800000000 = false
    ∧ accessWellFormed 0x0C000000000 = false ∧ accessWellFormed 0x09900000000 = false
    ∧ accessWellFormed 0x09A00000000 = false ∧ accessWellFormed 0x09B00000000 = false
    ∧ accessWellFormed 0x09800000000 = true := by decide

/-! ## Decoding: the words of spec/30_encoding.md R70 and R79, with ignored bits set -/

theorem test_decode_reads :
    decode 0x080FFFFFFFF = .ok .rdId ∧ decode 0x08400000001 = .ok .rdCtrl ∧ decode 0x08800000000 = .ok .rdStatus
    ∧ decode 0x08C00000003 = .ok .rdCmd ∧ decode 0x09000000031 = .ok .rdData8 ∧ decode 0x09400000000 = .ok .rdData32
    ∧ decode 0x09800000000 = .ok .rdCrcState ∧ decode 0x09C00000000 = .ok .rdCrcResult
    ∧ decode 0x0A000000000 = .ok .rdTarget ∧ decode 0x0A400000000 = .ok .rdPrefix ∧ decode 0x0A800000000 = .ok .rdLanes
    ∧ decode 0x0AC00000000 = .ok .rdResult ∧ decode 0x0B000000000 = .ok .rdResultLane
    ∧ decode 0x0B400000000 = .ok .rdLaneMax ∧ decode 0x0B800000000 = .ok (.rdRsvd 0x38)
    ∧ decode 0x0BC00000000 = .ok (.rdRsvd 0x3C) := by decide

theorem test_decode_rejected_writes :
    decode 0x180FFFFFFFF = .ok .wrId ∧ decode 0x18800000000 = .ok .wrStatus ∧ decode 0x19C00000001 = .ok .wrCrcResult
    ∧ decode 0x1A400000000 = .ok .wrPrefix ∧ decode 0x1AC00000001 = .ok .wrResult
    ∧ decode 0x1B000000000 = .ok .wrResultLane ∧ decode 0x1B400000004 = .ok .wrLaneMax
    ∧ decode 0x1B800000000 = .ok (.wrRsvd 0x38) ∧ decode 0x1BC00000001 = .ok (.wrRsvd 0x3C) := by decide

theorem test_decode_writes :
    decode 0x18400000002 = .ok (.wrCtrlSet true false) ∧ decode 0x184FFFFFFFC = .ok (.wrCtrlSet false true)
    ∧ decode 0x18400000007 = .ok .wrCtrlSrst ∧ decode 0x190FFFFFF31 = .ok (.wrData8 0x31)
    ∧ decode 0x19434333231 = .ok (.wrData32 0x34333231) ∧ decode 0x198641C1F5C = .ok (.wrCrcState 0x641C1F5C)
    ∧ decode 0x1A0A3830348 = .ok (.wrTarget 0xA3830348) ∧ decode 0x1A800000200 = .ok (.wrLanes 0x200) := by decide

theorem test_decode_commands :
    decode 0x18C00000001 = .ok .wrCmdInit ∧ decode 0x18C00000002 = .ok .wrCmdCaptureTarget
    ∧ decode 0x18C00000003 = .ok .wrCmdStart ∧ decode 0x18C00000004 = .ok .wrCmdClearErr
    ∧ decode 0x18C00000005 = .ok .wrCmdAck ∧ decode 0x18C00000000 = .error .illegalCommand
    ∧ decode 0x18C00000006 = .error .illegalCommand ∧ decode 0x18C00000101 = .error .illegalCommand := by decide

theorem test_decodeTableWord :
    decodeTableWord 48 0x18C00000003 = some .wrCmdStart ∧ decodeTableWord 48 0x00800000000 = none
    ∧ decodeTableWord 48 0x218C00000003 = none := by decide

/-- One operation of each row, in the table's order. -/
def oneOfEachRow : List Instr :=
  [.rdId, .rdCtrl, .rdStatus, .rdCmd, .rdData8, .rdData32, .rdCrcState, .rdCrcResult, .rdTarget, .rdPrefix, .rdLanes,
   .rdResult, .rdResultLane, .rdLaneMax, .rdRsvd 0x38, .wrId, .wrCtrlSet true true, .wrCtrlSrst, .wrStatus, .wrCmdInit,
   .wrCmdCaptureTarget, .wrCmdStart, .wrCmdClearErr, .wrCmdAck, .wrData8 1, .wrData32 1, .wrCrcState 1, .wrCrcResult,
   .wrTarget 1, .wrPrefix, .wrLanes 1, .wrResult, .wrResultLane, .wrLaneMax, .wrRsvd 0x3C]

/-- R84: exactly 35 rows. -/
theorem test_rows_are_35 : (oneOfEachRow.map rowOf).dedup.length = 35 := by decide +kernel

/-! ## The checksum functions -/

/-- V20, rows 0x00 to 0x38. -/
def tableRows0 : List Word :=
  [0x00000000, 0x77073096, 0xEE0E612C, 0x990951BA, 0x076DC419, 0x706AF48F, 0xE963A535, 0x9E6495A3,
   0x0EDB8832, 0x79DCB8A4, 0xE0D5E91E, 0x97D2D988, 0x09B64C2B, 0x7EB17CBD, 0xE7B82D07, 0x90BF1D91,
   0x1DB71064, 0x6AB020F2, 0xF3B97148, 0x84BE41DE, 0x1ADAD47D, 0x6DDDE4EB, 0xF4D4B551, 0x83D385C7,
   0x136C9856, 0x646BA8C0, 0xFD62F97A, 0x8A65C9EC, 0x14015C4F, 0x63066CD9, 0xFA0F3D63, 0x8D080DF5,
   0x3B6E20C8, 0x4C69105E, 0xD56041E4, 0xA2677172, 0x3C03E4D1, 0x4B04D447, 0xD20D85FD, 0xA50AB56B,
   0x35B5A8FA, 0x42B2986C, 0xDBBBC9D6, 0xACBCF940, 0x32D86CE3, 0x45DF5C75, 0xDCD60DCF, 0xABD13D59,
   0x26D930AC, 0x51DE003A, 0xC8D75180, 0xBFD06116, 0x21B4F4B5, 0x56B3C423, 0xCFBA9599, 0xB8BDA50F,
   0x2802B89E, 0x5F058808, 0xC60CD9B2, 0xB10BE924, 0x2F6F7C87, 0x58684C11, 0xC1611DAB, 0xB6662D3D]

theorem test_table_rows0 :
    (List.range 64).map (fun n => crcTable (BitVec.ofNat 8 (0 + n))) = tableRows0 := by decide +kernel

/-- V20, rows 0x40 to 0x78. -/
def tableRows1 : List Word :=
  [0x76DC4190, 0x01DB7106, 0x98D220BC, 0xEFD5102A, 0x71B18589, 0x06B6B51F, 0x9FBFE4A5, 0xE8B8D433,
   0x7807C9A2, 0x0F00F934, 0x9609A88E, 0xE10E9818, 0x7F6A0DBB, 0x086D3D2D, 0x91646C97, 0xE6635C01,
   0x6B6B51F4, 0x1C6C6162, 0x856530D8, 0xF262004E, 0x6C0695ED, 0x1B01A57B, 0x8208F4C1, 0xF50FC457,
   0x65B0D9C6, 0x12B7E950, 0x8BBEB8EA, 0xFCB9887C, 0x62DD1DDF, 0x15DA2D49, 0x8CD37CF3, 0xFBD44C65,
   0x4DB26158, 0x3AB551CE, 0xA3BC0074, 0xD4BB30E2, 0x4ADFA541, 0x3DD895D7, 0xA4D1C46D, 0xD3D6F4FB,
   0x4369E96A, 0x346ED9FC, 0xAD678846, 0xDA60B8D0, 0x44042D73, 0x33031DE5, 0xAA0A4C5F, 0xDD0D7CC9,
   0x5005713C, 0x270241AA, 0xBE0B1010, 0xC90C2086, 0x5768B525, 0x206F85B3, 0xB966D409, 0xCE61E49F,
   0x5EDEF90E, 0x29D9C998, 0xB0D09822, 0xC7D7A8B4, 0x59B33D17, 0x2EB40D81, 0xB7BD5C3B, 0xC0BA6CAD]

theorem test_table_rows1 :
    (List.range 64).map (fun n => crcTable (BitVec.ofNat 8 (64 + n))) = tableRows1 := by decide +kernel

/-- V20, rows 0x80 to 0xB8. -/
def tableRows2 : List Word :=
  [0xEDB88320, 0x9ABFB3B6, 0x03B6E20C, 0x74B1D29A, 0xEAD54739, 0x9DD277AF, 0x04DB2615, 0x73DC1683,
   0xE3630B12, 0x94643B84, 0x0D6D6A3E, 0x7A6A5AA8, 0xE40ECF0B, 0x9309FF9D, 0x0A00AE27, 0x7D079EB1,
   0xF00F9344, 0x8708A3D2, 0x1E01F268, 0x6906C2FE, 0xF762575D, 0x806567CB, 0x196C3671, 0x6E6B06E7,
   0xFED41B76, 0x89D32BE0, 0x10DA7A5A, 0x67DD4ACC, 0xF9B9DF6F, 0x8EBEEFF9, 0x17B7BE43, 0x60B08ED5,
   0xD6D6A3E8, 0xA1D1937E, 0x38D8C2C4, 0x4FDFF252, 0xD1BB67F1, 0xA6BC5767, 0x3FB506DD, 0x48B2364B,
   0xD80D2BDA, 0xAF0A1B4C, 0x36034AF6, 0x41047A60, 0xDF60EFC3, 0xA867DF55, 0x316E8EEF, 0x4669BE79,
   0xCB61B38C, 0xBC66831A, 0x256FD2A0, 0x5268E236, 0xCC0C7795, 0xBB0B4703, 0x220216B9, 0x5505262F,
   0xC5BA3BBE, 0xB2BD0B28, 0x2BB45A92, 0x5CB36A04, 0xC2D7FFA7, 0xB5D0CF31, 0x2CD99E8B, 0x5BDEAE1D]

theorem test_table_rows2 :
    (List.range 64).map (fun n => crcTable (BitVec.ofNat 8 (128 + n))) = tableRows2 := by decide +kernel

/-- V20, rows 0xC0 to 0xF8. -/
def tableRows3 : List Word :=
  [0x9B64C2B0, 0xEC63F226, 0x756AA39C, 0x026D930A, 0x9C0906A9, 0xEB0E363F, 0x72076785, 0x05005713,
   0x95BF4A82, 0xE2B87A14, 0x7BB12BAE, 0x0CB61B38, 0x92D28E9B, 0xE5D5BE0D, 0x7CDCEFB7, 0x0BDBDF21,
   0x86D3D2D4, 0xF1D4E242, 0x68DDB3F8, 0x1FDA836E, 0x81BE16CD, 0xF6B9265B, 0x6FB077E1, 0x18B74777,
   0x88085AE6, 0xFF0F6A70, 0x66063BCA, 0x11010B5C, 0x8F659EFF, 0xF862AE69, 0x616BFFD3, 0x166CCF45,
   0xA00AE278, 0xD70DD2EE, 0x4E048354, 0x3903B3C2, 0xA7672661, 0xD06016F7, 0x4969474D, 0x3E6E77DB,
   0xAED16A4A, 0xD9D65ADC, 0x40DF0B66, 0x37D83BF0, 0xA9BCAE53, 0xDEBB9EC5, 0x47B2CF7F, 0x30B5FFE9,
   0xBDBDF21C, 0xCABAC28A, 0x53B39330, 0x24B4A3A6, 0xBAD03605, 0xCDD70693, 0x54DE5729, 0x23D967BF,
   0xB3667A2E, 0xC4614AB8, 0x5D681B02, 0x2A6F2B94, 0xB40BBE37, 0xC30C8EA1, 0x5A05DF1B, 0x2D02EF8D]

theorem test_table_rows3 :
    (List.range 64).map (fun n => crcTable (BitVec.ofNat 8 (192 + n))) = tableRows3 := by decide +kernel

/-- V1, V2, V7. -/
theorem test_checksums :
    checksum [] = 0 ∧ checksum [0x31, 0x32, 0x33, 0x34, 0x35, 0x36, 0x37, 0x38, 0x39] = 0xCBF43926
    ∧ checksum [0x41, 0x42, 0x43] = 0xA3830348 ∧ checksum [0x00] = 0xD202EF8D := by decide

/-- V9. -/
theorem test_bit_steps :
    crcStep 0x80000000 = 0x40000000 ∧ crcStep 0xFFFFFFFF = 0x92477CDF ∧ crcInvStep 0x80000000 = 0xDB710641
    ∧ crcInvStep 0x76DC4190 = 0xEDB88320 := by decide

/-- V10, V12, V16, V17. -/
theorem test_byte_updates :
    crcUpd 0xFFFFFFFF 0x31 = 0x7C231048 ∧ crcUpd 0xFFFFFFFF 0xFF = 0x00FFFFFF ∧ crcUpd 0x12345678 0x9A = 0x4E16B702
    ∧ crcUpd 0xA5A5A5A5 0x3C = 0x89768E45 := by decide

/-- V22, V24, V25, V26. -/
theorem test_word_feeds :
    crcFeed crcInit (le32 0x00000001) = 0x66074786 ∧ crcFeed crcInit (le32 0x80000000) = 0x3303A3C3
    ∧ crcFeed crcInit (le32 0xDEADBEEF) = 0xE5A59FE0 ∧ crcFeed crcInit (le32 0x00434241) = 0x55595AD3 := by decide

/-- V30, V31, V33 and the first pair of V32. -/
theorem test_matching_tails :
    matchingTail 0x30E98315 0xA3830348 = 0x833E4DCC ∧ matchingTail 0xFFFFFFFF 0x00000000 = 0x6DD90A9D
    ∧ matchingTail 0xFFFFFFFF 0xFFFFFFFF = 0xFFFFFFFF ∧ matchingTail 0x52E6B438 0xF2A74DE4 = 0xC3549D48 := by
  decide +kernel

/-! ## Operations (V27, V42, V51, V52, V54), NLANES_MAX = 8 -/

theorem test_wrData8_ignores_high_bits : (after 0x190FFFFFF31 idle8).crcState = 0x7C231048 := by decide

theorem test_wrData8_while_busy :
    (after 0x19000000031 busy1).errcode = 1 ∧ (after 0x19000000031 busy1).crcState = 0xFFFFFFFF := by decide

theorem test_wrData32 : (after 0x19434333231 idle8).crcState = 0x641C1F5C := by decide

theorem test_wrCrcState_resumes :
    (after 0x09C00000000 (after 0x19000000039 (after 0x198651F2550 idle8))).reply = .read 0xCBF43926 .okay := by
  decide +kernel

theorem test_wrCmdInit : (after 0x18C00000001 (after 0x19812345678 idle8)).crcState = 0xFFFFFFFF := by decide

theorem test_rdCrcResult : (after 0x09C00000000 (after 0x19812345678 idle8)).reply = .read 0xEDCBA987 .okay := by decide

theorem test_capture : (after 0x18C00000002 { idle8 with crcState := 0x5C7CFCB7 }).target = 0xA3830348 := by decide

theorem test_wrLanes :
    (after 0x1A800000000 idle8).lanes = 1 ∧ (after 0x1A800000003 idle8).lanes = 3 ∧ (after 0x1A800000009 idle8).lanes = 8
    ∧ (after 0x1A800000100 idle8).lanes = 8 ∧ (after 0x1A8FFFFFFFF idle8).lanes = 8 := by decide

/-- V40, T = 3: the second lane's range, the clamped last range, and the lane that takes no part. -/
theorem test_start_partitions :
    ((after 0x18C00000003 { idle8 with lanes := 3 }).laneFile.map fun l => (l.active, l.cur, l.limit))
      = [(true, 0x0, 0x55555556), (true, 0x55555556, 0xAAAAAAAC), (true, 0xAAAAAAAC, 0x100000000), (false, 0, 0),
         (false, 0, 0), (false, 0, 0), (false, 0, 0), (false, 0, 0)] := by decide

theorem test_start_status_and_second_start :
    (after 0x08800000000 (after 0x18C00000003 done8)).reply = .read 0x00000001 .okay
    ∧ (after 0x18C00000003 busy1).errcode = 1 ∧ (after 0x18C00000003 busy1).reply = .write .error := by decide

theorem test_ack_clears_irq :
    (after 0x08800000000 done8).reply = .read 0x00000106 .okay
    ∧ (after 0x08800000000 (after 0x18C00000005 done8)).reply = .read 0x00000004 .okay
    ∧ (after 0x18C00000005 done8).irq = false := by decide

theorem test_ctrl_masks_irq :
    (after 0x08800000000 (after 0x18400000000 done8)).reply = .read 0x00000006 .okay
    ∧ (after 0x08400000000 (after 0x184FFFFFFF8 done8)).reply = .read 0x00000000 .okay
    ∧ (after 0x08400000000 (after 0x18400000006 idle8)).reply = .read 0x00000006 .okay := by decide

theorem test_srst_drops_other_bits_and_the_search :
    (after 0x08400000000 (after 0x18400000007 busy1)).reply = .read 0x00000000 .okay
    ∧ (after 0x18400000007 busy1).busy = false ∧ (after 0x18400000007 busy1).done = false := by decide

theorem test_first_error_is_kept :
    (after 0x11000000000 (after 0x18000000000 idle8)).errcode = 4
    ∧ (after 0x08800000000 (after 0x188FFFFFFFF idle8)).reply = .read 0x00000048 .okay := by decide

theorem test_priority_while_busy :
    (after 0x10800000000 busy1).errcode = 3 ∧ (after 0x18800000000 busy1).errcode = 4
    ∧ (after 0x18C00000000 busy1).errcode = 2 := by decide

theorem test_bad_reads_record_nothing :
    (after 0x00800000000 idle8).reply = .read 0 .error ∧ (after 0x0C000000000 idle8).errcode = 0 := by decide

theorem test_clear_error_while_busy :
    (after 0x08800000000 (after 0x18C00000004 { busy1 with errcode := 1 })).reply = .read 0x00000001 .okay := by decide

theorem test_constant_reads :
    (after 0x08000000000 busy1).reply = .read 0x4F435243 .okay ∧ (after 0x0B400000000 idle8).reply = .read 8 .okay
    ∧ (after 0x0A800000000 idle8).reply = .read 8 .okay ∧ (after 0x0BC00000000 idle8).reply = .read 0 .okay := by decide

/-- The free choices of the fetch and of the parameters do not stand in the way of a transaction after reset. -/
theorem test_first_transaction_after_reset :
    (next (State.reset.withFetchWord 48 0x19000000031)).crcState = 0x7C231048
    ∧ (next (State.reset.withFetchWord 48 0x18C00000003)).busy = true := by decide

/-! ## The search unit -/

/-- V33: the last tail of the range is tested and matches. -/
theorem test_last_tail_matches :
    (next { last1 with agenda := [.lane 0] }).laneFile
      = [{ active := true, cur := 0xFFFFFFFF, limit := 0x100000000, found := true, val := 0xFFFFFFFF }] := by decide

/-- With NOMATCH the same tail does not match, and the counter reaches 2^32 without wrapping. -/
theorem test_nomatch_reaches_the_end :
    ((next { last1 with noMatch := true, agenda := [.lane 0] }).laneFile.map Lane.cur) = [0x100000000] := by decide

/-- R129: FOUND tells a match of the sentinel value from no match (R228). -/
theorem test_completion :
    (next { won1 with agenda := [.complete] }).found = true ∧ (next { won1 with agenda := [.complete] }).result = 0
    ∧ (next { lost1 with agenda := [.complete] }).found = false
    ∧ (next { lost1 with agenda := [.complete] }).result = 0xFFFFFFFF := by decide

/-- R129, 90_conflicts.md C5: by index, not by time; an inactive entry is no winner. -/
theorem test_lowest_winner :
    firstWinner 0 [{ active := false, cur := 0, limit := 0, found := true, val := 7 },
      { active := true, cur := 1, limit := 1, found := false, val := 0 },
      { active := true, cur := 2, limit := 3, found := true, val := 2 },
      { active := true, cur := 3, limit := 4, found := true, val := 3 }] = some (2, 2) := by decide

/-- V41 with T = 256 and V40's clamp. -/
theorem test_partition_values :
    0x833E4DCC / rangeSize 256 = 131 ∧ 0x833E4DCC / rangeSize 3 = 1 ∧ rangeStart 255 254 = 0xFEFEFFFC
    ∧ rangeEnd 255 254 = 0x100000000 := by decide

/-! ## The host's side -/

/-- R83: a feed of five bytes is one DATA32 and one DATA8 write. -/
theorem test_feed_expansion :
    (feedOps [0x31, 0x32, 0x33, 0x34, 0x39]).map encode = [0x19434333231, 0x19000000039] := by decide

/-- The example rows of V52, from host accesses at BASE = 128. -/
theorem test_host_accesses :
    memRead p8 (128 + 0x08) .byte = some 0x00800000000 ∧ memRead p8 (128 + 0x18) .half = some 0x05800000000
    ∧ memWrite p8 (128 + 0x0C) .word 3 = some 0x18C00000003 ∧ memRead p8 127 .word = none
    ∧ memRead p8 192 .word = none := by decide

/-! ## Witnesses: states and operands that meet the hypotheses of each statement -/

theorem busy1_searchInv : busy1.SearchInv := by
  intro _ i l h
  match i with
  | 0 =>
    obtain rfl : l = { active := true, cur := 0, limit := 0x100000000, found := false, val := 0 } := by
      simpa [busy1, eq_comm] using h
    exact ⟨rfl, by decide, by decide, by decide, fun v _ hv => absurd hv (Nat.not_lt_zero v), by simp⟩
  | i + 1 => simp [busy1] at h

theorem won1_searchInv : won1.SearchInv := by
  intro _ i l h
  match i with
  | 0 =>
    obtain rfl : l = { active := true, cur := 0, limit := 0x100000000, found := true, val := 0 } := by
      simpa [won1, busy1, eq_comm] using h
    exact ⟨rfl, by decide, by decide, by decide, fun v _ hv => absurd hv (Nat.not_lt_zero v),
      fun _ => ⟨by decide, rfl, by decide⟩⟩
  | i + 1 => simp [won1, busy1] at h

theorem lost1_searchInv : lost1.SearchInv := by
  intro _ i l h
  match i with
  | 0 =>
    obtain rfl : l = { active := true, cur := 0x100000000, limit := 0x100000000, found := false, val := 0 } := by
      simpa [lost1, busy1, eq_comm] using h
    exact ⟨rfl, by decide, by decide, by decide, fun v _ _ => by simp [tailMatches, lost1], by simp⟩
  | i + 1 => simp [lost1, busy1] at h

theorem test_states_meet_the_state_invariant :
    idle8.Inv ∧ busy1.Inv ∧ won1.Inv ∧ lost1.Inv ∧ done8.Inv :=
  ⟨by decide, by decide, by decide, by decide, by decide⟩

theorem witness_DecodeOfEncodeIsTheOperation :
    (Instr.rdRsvd 0x38).wellFormed = true ∧ (Instr.wrRsvd 0x3C).wellFormed = true
    ∧ (Instr.wrData32 0xFFFFFFFF).wellFormed = true := by decide

theorem witness_DescriptorsSelectTheRowTheyDecodeTo :
    decode 0x0BC00000000 = .ok (.rdRsvd 0x3C) ∧ (rowOf (.rdRsvd 0x38)).selectedBy 0x0BC00000000 = true
    ∧ (rowOf (.rdRsvd 0x3C)).selectedBy 0x0BC00000000 = true ∧ accessWellFormed 0x09A00000000 = false := by decide

/-- Each of the three refusals of the decoder has a descriptor; the command words nearest the five commands are among
them. -/
theorem witness_UndecodedDescriptorsAreNamed :
    decode 0x0C000000000 = .error .badRead ∧ decode 0x19100000000 = .error .badWrite
    ∧ decode 0x18C00000000 = .error .illegalCommand ∧ decode 0x18C00000006 = .error .illegalCommand := by decide

theorem witness_HostAccessesBecomeDescriptors :
    (0 < 64 ∧ 63 < 64) ∧ (127 < p8.base ∨ p8.base + 64 ≤ 127) ∧ (192 < p8.base ∨ p8.base + 64 ≤ 192) := by decide

theorem witness_StepRunsTheDecodedOperation :
    (issue 0x18C00000003 idle8).agenda = .txn 0x18C00000003 :: [] ∧ decode 0x18C00000003 = .ok .wrCmdStart := by decide

/-- A size of one byte at an aligned offset, and a whole word at a misaligned one. -/
theorem witness_BadReadsAnswerZeroWithError :
    ((issue 0x00800000000 busy1).agenda = .txn 0x00800000000 :: [] ∧ txnWrite 0x00800000000 = false
      ∧ txnSize 0x00800000000 ≠ 0b10)
    ∧ ((issue 0x09B00000000 busy1).agenda = .txn 0x09B00000000 :: [] ∧ txnWrite 0x09B00000000 = false
      ∧ (txnOff 0x09B00000000).extractLsb' 0 2 ≠ 0) := by decide

theorem witness_BadWritesRecordBadAccess :
    ((issue 0x1C000000000 busy1).agenda = .txn 0x1C000000000 :: [] ∧ txnWrite 0x1C000000000 = true
      ∧ txnSize 0x1C000000000 ≠ 0b10)
    ∧ ((issue 0x19100000000 busy1).agenda = .txn 0x19100000000 :: [] ∧ txnWrite 0x19100000000 = true
      ∧ (txnOff 0x19100000000).extractLsb' 0 2 ≠ 0) := by decide

/-- CODE 0, CODE 6 and CODE 0xFF, and CODE 1 with a bit set above it. -/
theorem witness_IllegalCommandWordsAreRejected :
    (issue (writeTxn 0x0C 0x101) busy1).agenda = .txn (writeTxn 0x0C 0x101) :: []
    ∧ (0x00#32).extractLsb' 0 8 = 0 ∧ 6 ≤ ((0x06#32).extractLsb' 0 8).toNat ∧ 6 ≤ ((0xFF#32).extractLsb' 0 8).toNat
    ∧ (0x101#32).extractLsb' 8 24 ≠ 0 := by decide

/-- One write for each of the four clauses, all during a search. -/
theorem witness_RejectedWritesFollowThePriority :
    (issue 0x10800000000 busy1).agenda = .txn 0x10800000000 :: [] ∧ busy1.busy = true
    ∧ (txnWrite 0x10800000000 = true ∧ accessWellFormed 0x10800000000 = false)
    ∧ (txnWrite 0x1BC00000000 = true ∧ accessWellFormed 0x1BC00000000 = true
      ∧ readOnlyOffset (txnOff 0x1BC00000000) = true)
    ∧ (txnWrite 0x18C00000006 = true ∧ accessWellFormed 0x18C00000006 = true ∧ txnOff 0x18C00000006 = 0x0C
      ∧ ¬ ((txnData 0x18C00000006).extractLsb' 0 8).toNat ≤ 5)
    ∧ (txnWrite 0x18C00000005 = true ∧ accessWellFormed 0x18C00000005 = true
      ∧ readOnlyOffset (txnOff 0x18C00000005) = false ∧ txnOff 0x18C00000005 = 0x0C ∧ txnData 0x18C00000005 ≠ 4
      ∧ 1 ≤ ((txnData 0x18C00000005).extractLsb' 0 8).toNat ∧ ((txnData 0x18C00000005).extractLsb' 0 8).toNat ≤ 5
      ∧ (txnData 0x18C00000005).extractLsb' 8 24 = 0#24)
    ∧ (txnWrite 0x18400000006 = true ∧ accessWellFormed 0x18400000006 = true
      ∧ readOnlyOffset (txnOff 0x18400000006) = false ∧ txnOff 0x18400000006 = 0x04
      ∧ (txnData 0x18400000006).getLsbD 0 = false) := by decide

/-- A bad read, a good read, a rejected write and an accepted write, the last one during a search. -/
theorem witness_EveryTransactionIsAnswered :
    (issue 0x0C000000000 busy1).agenda = .txn 0x0C000000000 :: []
    ∧ (txnWrite 0x0C000000000 = false ∧ accessWellFormed 0x0C000000000 = false)
    ∧ (txnWrite 0x0BC00000000 = false ∧ accessWellFormed 0x0BC00000000 = true)
    ∧ (txnWrite 0x19000000000 = true ∧ accessWellFormed 0x19000000000 = true ∧ busy1.busy = true
      ∧ txnOff 0x19000000000 ≠ 0x04 ∧ txnOff 0x19000000000 ≠ 0x0C)
    ∧ (txnWrite 0x18C00000004 = true ∧ accessWellFormed 0x18C00000004 = true
      ∧ readOnlyOffset (txnOff 0x18C00000004) = false ∧ txnOff 0x18C00000004 = 0x0C ∧ txnData 0x18C00000004 = 4
      ∧ 1 ≤ ((txnData 0x18C00000004).extractLsb' 0 8).toNat ∧ ((txnData 0x18C00000004).extractLsb' 0 8).toNat ≤ 5
      ∧ (txnData 0x18C00000004).extractLsb' 8 24 = 0#24) := by decide

theorem witness_WellFormedReadsHaveNoSideEffects :
    ({ busy1 with agenda := [.txn 0x08800000000, .txn 0x08800000000] } : State).agenda
      = .txn 0x08800000000 :: [.txn 0x08800000000]
    ∧ txnWrite 0x08800000000 = false ∧ accessWellFormed 0x08800000000 = true := by decide

theorem witness_HardwareResetFromAnyState :
    ({ won1 with agenda := [.rst] } : State).agenda = .rst :: [] := by decide

theorem witness_SoftResetFromAnyState : (0xFFFFFFFF#32).getLsbD 0 = true ∧ (0x1#32).getLsbD 0 = true := by decide

theorem witness_WriteData8FeedsOneByte : idle8.busy = false ∧ busy1.busy = true := by decide

theorem witness_WriteData32FeedsFourBytes : idle8.busy = false ∧ busy1.busy = true := by decide

theorem witness_CrcStateIsLoadedAndInitialised : idle8.busy = false ∧ busy1.busy = true := by decide

theorem witness_FeedingIsIndependentOfTheSplit :
    idle8.busy = false ∧ ∀ i ∈ [Instr.wrData8 0x31, Instr.wrData32 0x35343332],
      (∃ b, i = .wrData8 b) ∨ (∃ w, i = .wrData32 w) := by
  refine ⟨rfl, fun i hi => ?_⟩
  rcases List.mem_cons.mp hi with rfl | hi
  · exact .inl ⟨_, rfl⟩
  · obtain rfl := List.mem_singleton.mp hi
    exact .inr ⟨_, rfl⟩

theorem witness_ChecksumProcedureReturnsTheChecksum : idle8.busy = false ∧ done8.busy = false := by decide

theorem witness_TargetIsWrittenAndCaptured : idle8.busy = false ∧ busy1.busy = true := by decide

/-- The three ranges of the word at their ends: 0; 1 and NLANES_MAX; NLANES_MAX + 1. -/
theorem witness_WorkerCountIsLegalised :
    idle8.busy = false ∧ busy1.busy = true ∧ (1 ≤ (1#32).toNat ∧ (1#32).toNat ≤ idle8.params.nlanesMax)
    ∧ (1 ≤ (8#32).toNat ∧ (8#32).toNat ≤ idle8.params.nlanesMax) ∧ idle8.params.nlanesMax < (9#32).toNat := by decide

theorem witness_AcknowledgeClearsDone : done8.busy = false ∧ done8.done = true ∧ busy1.busy = true := by decide

theorem witness_ReadOnlyWritesAreRejected :
    Instr.wrId ∈ [.wrCrcResult, .wrPrefix, .wrResult, .wrResultLane, .wrId, .wrStatus, .wrLaneMax, .wrRsvd 0x38]
    ∧ Instr.wrRsvd 0x38 ∈ [.wrCrcResult, .wrPrefix, .wrResult, .wrResultLane, .wrId, .wrStatus, .wrLaneMax, .wrRsvd 0x38]
    := by decide

/-- T at both ends of its range; the first and the last tail; the last lane but one. -/
theorem witness_PartitionCoversEveryTailOnce :
    (1 ≤ 1 ∧ 1 ≤ 256) ∧ (1 ≤ 256 ∧ 256 ≤ 256) ∧ (254 + 1 < 256 ∧ 0 + 1 < 256) ∧ (255 < 256)
    ∧ (0 < 2 ^ 32 ∧ 2 ^ 32 - 1 < 2 ^ 32)
    ∧ (rangeStart 256 255 ≤ 2 ^ 32 - 1 ∧ 2 ^ 32 - 1 < rangeEnd 256 255 ∧ 255 = (2 ^ 32 - 1) / ((2 ^ 32 + 256 - 1) / 256))
    := by decide

/-- With two workers of eight lanes: lanes 0 and 1 take part, lane 2 does not. -/
theorem witness_StartBeginsASearch :
    ({ idle8 with lanes := 2 } : State).busy = false ∧ busy1.busy = true
    ∧ ((after 0x18C00000003 { idle8 with lanes := 2 }).laneFile.map Lane.active)
      = [true, true, false, false, false, false, false, false] := by decide

/-- The first tail of the range matches, and so does the last; with NOMATCH neither does. -/
theorem witness_LaneStepTestsOneTail :
    (({ busy1 with agenda := [.lane 0] } : State).agenda = .lane 0 :: [] ∧ busy1.busy = true
      ∧ busy1.laneFile[0]? = some { active := true, cur := 0, limit := 0x100000000, found := false, val := 0 }
      ∧ crcFin (crcFeed busy1.prefixState (le32 0)) = busy1.target ∧ busy1.noMatch = false)
    ∧ (last1.laneFile[0]? = some { active := true, cur := 0xFFFFFFFF, limit := 0x100000000, found := false, val := 0 }
      ∧ crcFin (crcFeed last1.prefixState (le32 0xFFFFFFFF)) = last1.target)
    ∧ ¬ (({ last1 with noMatch := true } : State).noMatch = false) := by decide

/-- Both clauses: a lane that matched, and no lane that matched. -/
theorem witness_CompletionSelectsTheLowestLane :
    (({ won1 with agenda := [.complete] } : State).agenda = .complete :: [] ∧ won1.busy = true
      ∧ (∀ l ∈ won1.laneFile, l.active = false ∨ l.found = true ∨ l.cur = l.limit)
      ∧ won1.laneFile[0]? = some { active := true, cur := 0, limit := 0x100000000, found := true, val := 0 })
    ∧ (lost1.busy = true ∧ (∀ l ∈ lost1.laneFile, l.active = false ∨ l.found = true ∨ l.cur = l.limit)
      ∧ ∀ l ∈ lost1.laneFile, ¬ (l.active = true ∧ l.found = true)) := by decide

/-- A finished lane, a lane that does not exist, an idle block; and a completion step before every lane is finished. -/
theorem witness_DisabledUnitStepsChangeNothing :
    laneEnabledAt won1 0 = false ∧ laneEnabledAt busy1 1 = false ∧ laneEnabledAt lost1 0 = false
    ∧ (∀ l, won1.laneFile[0]? = some l →
        won1.busy = false ∨ l.active = false ∨ l.found = true ∨ l.limit.toNat ≤ l.cur.toNat)
    ∧ ∃ l ∈ busy1.laneFile, l.active = true ∧ l.found = false ∧ l.cur ≠ l.limit := by
  refine ⟨by decide, by decide, by decide, ?_, by decide⟩
  intro l h
  obtain rfl : l = { active := true, cur := 0, limit := 0x100000000, found := true, val := 0 } := by
    simpa [won1, busy1, eq_comm] using h
  exact .inr (.inr (.inl rfl))

/-- A block with an enabled lane, one with the completion step enabled and no lane, and an idle one. -/
theorem witness_UnitMovesWhenNothingIsLaidOut :
    (busy1.agenda = [] ∧ laneEnabledAt busy1 0 = true)
    ∧ (won1.agenda = [] ∧ completionEnabled won1 = true ∧ enabledLanes won1 = [])
    ∧ (idle8.agenda = [] ∧ idle8.busy = false) := by decide

theorem witness_EveryStepKeepsTheStateInvariant :
    (issue 0x18400000001 busy1).Inv ∧ step (issue 0x18400000001 busy1) = .next (after 0x18400000001 busy1) :=
  ⟨by decide, rfl⟩

theorem witness_EveryStepKeepsTheSearchInvariant :
    ({ busy1 with agenda := [.lane 0] } : State).SearchInv
    ∧ step { busy1 with agenda := [.lane 0] } = .next (next { busy1 with agenda := [.lane 0] }) :=
  ⟨busy1_searchInv, rfl⟩

/-- With a match, and with NOMATCH. -/
def won1c : State := { won1 with agenda := [.complete] }

def lost1c : State := { lost1 with agenda := [.complete] }

theorem witness_CompletionReportsTheMatchingTail :
    (won1c.Inv ∧ won1c.SearchInv ∧ completionEnabled won1c = true ∧ won1c.agenda = .complete :: [] ∧ won1c.noMatch = false)
    ∧ (lost1c.Inv ∧ lost1c.SearchInv ∧ completionEnabled lost1c = true ∧ lost1c.agenda = .complete :: []
      ∧ lost1c.noMatch = true) :=
  ⟨⟨by decide, won1_searchInv, by decide, rfl, rfl⟩, ⟨by decide, lost1_searchInv, by decide, rfl, rfl⟩⟩

/-- An empty original and the injection after whose four bytes the tail 0 gives the checksum 0 of empty input. -/
def contract1 : State := { won1 with target := 0, prefixState := 0x9226F562, agenda := [.complete] }

theorem contract1_searchInv : contract1.SearchInv := by
  intro _ i l h
  match i with
  | 0 =>
    obtain rfl : l = { active := true, cur := 0, limit := 0x100000000, found := true, val := 0 } := by
      simpa [contract1, won1, busy1, eq_comm] using h
    exact ⟨rfl, by decide, by decide, by decide, fun v _ hv => absurd hv (Nat.not_lt_zero v),
      fun _ => ⟨by decide, rfl, by decide⟩⟩
  | i + 1 => simp [contract1, won1, busy1] at h

theorem witness_SearchContractHolds :
    contract1.Inv ∧ contract1.SearchInv ∧ completionEnabled contract1 = true ∧ contract1.agenda = .complete :: []
    ∧ contract1.noMatch = false
    ∧ contract1.target = checksum []
    ∧ contract1.prefixState = crcFeed 0xFFFFFFFF ([] ++ [0x50, 0x2f, 0x1b, 0x10]) :=
  ⟨by decide, contract1_searchInv, by decide, rfl, rfl, by decide, by decide⟩

theorem witness_EverySearchCompletes : busy1.Inv ∧ busy1.SearchInv ∧ busy1.busy = true ∧ busy1.agenda = [] :=
  ⟨by decide, busy1_searchInv, rfl, rfl⟩

/-- With NOMATCH 0 and with NOMATCH 1. -/
def toStart (noMatch : Bool) : State := { idle8 with noMatch := noMatch, agenda := [.txn (encode .wrCmdStart)] }

theorem witness_StartedSearchFindsTheMatchingTail :
    ((toStart false).Inv ∧ (toStart false).busy = false ∧ (toStart false).agenda = [.txn (encode .wrCmdStart)]
      ∧ (toStart false).noMatch = false)
    ∧ (toStart true).Inv ∧ (toStart true).busy = false ∧ (toStart true).agenda = [.txn (encode .wrCmdStart)]
    ∧ (toStart true).noMatch = true :=
  ⟨⟨by decide, rfl, rfl, rfl⟩, by decide, rfl, rfl, rfl⟩

/-- Two schedules of one search, of different length, that both end it. -/
theorem witness_ResultIsIndependentOfTheSchedule :
    busy1.Inv ∧ busy1.SearchInv ∧ busy1.busy = true
    ∧ (∃ t1, Host.Core.run Sys2Proof.core 2 { busy1 with agenda := [.lane 0, .complete] } = .next t1 ∧ t1.busy = false)
    ∧ (∃ t2, Host.Core.run Sys2Proof.core 3 { busy1 with agenda := [.complete, .lane 0, .complete] } = .next t2
        ∧ t2.busy = false)
    ∧ ∀ e ∈ [Event.complete, Event.lane 0, Event.complete], e = .complete ∨ ∃ i, e = .lane i :=
  ⟨by decide, busy1_searchInv, rfl, ⟨_, rfl, rfl⟩, ⟨_, rfl, rfl⟩, fun e he => by
    rcases List.mem_cons.mp he with rfl | he
    · exact .inl rfl
    · rcases List.mem_cons.mp he with rfl | he
      · exact .inr ⟨0, rfl⟩
      · exact .inl (List.mem_singleton.mp he)⟩

/-- By the hardware reset, by SRST, and by the completion step. -/
theorem witness_OnlyResetOrCompletionEndsASearch :
    busy1.busy = true ∧ (next { busy1 with agenda := [.rst] }).busy = false ∧ (after 0x18400000001 busy1).busy = false
    ∧ won1.busy = true ∧ (next { won1 with agenda := [.complete] }).busy = false := by decide

theorem witness_SearchInputsAreFixedDuringASearch :
    busy1.busy = true ∧ (after 0x1A0FFFFFFFF busy1).busy = true
    ∧ (next { busy1 with agenda := [.lane 0] }).busy = true := by decide

theorem witness_BusyGateRefusesExactlyTheGatedWrites :
    isGated .wrCmdAck = true ∧ isGated (.wrCtrlSet true true) = true ∧ isRead .rdStatus = true ∧ busy1.busy = true
    ∧ idle8.busy = false := by decide

theorem witness_CtrlIsSetAndReadBack :
    (0xFFFFFFFE#32).getLsbD 0 = false ∧ (0x0#32).getLsbD 0 = false ∧ idle8.busy = false ∧ busy1.busy = true := by decide

theorem witness_StatusReadShowsEveryFlag : done8.Inv ∧ busy1.Inv := by decide

/-- An error recorded, one cleared by CLEAR_ERR, by SRST and by reset. -/
theorem witness_FirstErrorIsKeptUntilCleared :
    (after 0x18000000000 idle8).errcode ≠ idle8.errcode
    ∧ (after 0x18C00000004 { idle8 with errcode := 4 }).errcode ≠ 4
    ∧ decode 0x18400000001 = .ok .wrCtrlSrst ∧ decode 0x18C00000004 = .ok .wrCmdClearErr
    ∧ ({ idle8 with agenda := [.rst] } : State).agenda = .rst :: [] := by decide

/-- DONE and irq rising at completion, irq rising at a write to CTRL, DONE falling at ACK. -/
theorem witness_CompletionIsTheOnlyInterruptSource :
    (won1.done = false ∧ (next { won1 with agenda := [.complete] }).done = true)
    ∧ (done8.done = true ∧ (after 0x18C00000005 done8).done = false)
    ∧ (({ done8 with irqEn := false } : State).irq = false
      ∧ (after 0x18400000004 { done8 with irqEn := false }).irq = true) := by decide

theorem witness_ClearErrorClearsTheRecordedError :
    exec .wrCmdClearErr { busy1 with errcode := 4 } = .next { busy1 with errcode := 0, reply := .write .okay } := rfl

/-- V30. -/
theorem witness_ExactlyOneTailMatches : crcFin (crcFeed 0x30E98315 (le32 0x833E4DCC)) = 0xA3830348 := by decide

theorem witness_ParametersAreHardwired :
    step { busy1 with agenda := [.rst] } = .next (next { busy1 with agenda := [.rst] }) := rfl

end Sys2Proof.Tests
end

section
/-! PROOFS. The transactions of the register window (spec/20_memory.md R56 to R59): bad-access reads, bad-access writes,
and well-formed reads. -/

namespace Sys2Proof.Machine

/-! ### A transaction at the head of the agenda -/

/-- A step whose oldest event is a transaction performs it (R75). -/
theorem step_of_txn {s : State} {t : Txn} {rest : List Event} (ha : s.agenda = .txn t :: rest) :
    step s = runTxn t { s with agenda := rest } := by
  simp [step, ha]

/-- A transaction whose descriptor is an operation performs the operation. -/
theorem runTxn_of_decode_ok {t : Txn} {i : Instr} (hd : decode t = .ok i) (s : State) : runTxn t s = exec i s := by
  simp [runTxn, hd]

/-- A transaction whose descriptor matches no row is answered as its error says. -/
theorem runTxn_of_decode_error {t : Txn} {e : DecodeError} (hd : decode t = .error e) (s : State) :
    runTxn t s = .next (answerUndecoded e s) := by
  simp [runTxn, hd]

/-! ### Bad accesses -/

/-- R56 in the negative: a bad access has another size than 4 or an unaligned offset. -/
theorem accessWellFormed_eq_false_iff (t : Txn) :
    accessWellFormed t = false ↔ txnSize t ≠ 0b10 ∨ (txnOff t).extractLsb' 0 2 ≠ 0 := by
  simp [accessWellFormed, wordSize, Decidable.imp_iff_not_or]

/-- A well-formed access has a word-aligned offset (R56). -/
theorem aligned_of_accessWellFormed {t : Txn} (hwf : accessWellFormed t = true) : (txnOff t).extractLsb' 0 2 = 0#2 := by
  have hboth : txnSize t = wordSize ∧ (txnOff t).extractLsb' 0 2 = 0#2 := by simpa [accessWellFormed] using hwf
  exact hboth.2

theorem decode_of_badRead {t : Txn} (hw : txnWrite t = false) (hwf : accessWellFormed t = false) :
    decode t = .error .badRead := by
  simp [decode, hw, hwf]

theorem decode_of_badWrite {t : Txn} (hw : txnWrite t = true) (hwf : accessWellFormed t = false) :
    decode t = .error .badWrite := by
  simp [decode, hw, hwf]

/-- Settles O8: the descriptor decodes to `badRead`, which `answerBadRead` answers. -/
theorem badReadsAnswerZeroWithError : Obligations.BadReadsAnswerZeroWithError := by
  intro s t rest ha hw hbad
  have hd : decode t = .error .badRead := decode_of_badRead hw ((accessWellFormed_eq_false_iff t).mpr hbad)
  calc step s
      = runTxn t { s with agenda := rest } := step_of_txn ha
    _ = .next (answerBadRead { s with agenda := rest }) := runTxn_of_decode_error hd _

/-- Settles O9: the descriptor decodes to `badWrite`, whose answer is `Reject(BADACCESS)`. -/
theorem badWritesRecordBadAccess : Obligations.BadWritesRecordBadAccess := by
  intro s t rest ha hw hbad
  have hd : decode t = .error .badWrite := decode_of_badWrite hw ((accessWellFormed_eq_false_iff t).mpr hbad)
  calc step s
      = runTxn t { s with agenda := rest } := step_of_txn ha
    _ = .next (reject .badAccess { s with agenda := rest }) := runTxn_of_decode_error hd _

/-! ### Well-formed reads -/

theorem decode_of_wellFormedRead {t : Txn} (hw : txnWrite t = false) (hwf : accessWellFormed t = true) :
    decode t = decodeRead (txnOff t) := by
  simp [decode, hw, hwf]

/-- A word-aligned offset is that of one of the sixteen words of the window (R62). -/
theorem exists_word_of_aligned :
    ∀ {off : Offset}, off.extractLsb' 0 2 = 0#2 → ∃ k : Fin 16, off = BitVec.ofNat 6 (4 * k) := by
  decide

/-- The decoder's read rows and the register map agree at every word of the window: the row's operation reads the map's
word there. -/
theorem decodeRead_reads_windowWord {off : Offset} (haligned : off.extractLsb' 0 2 = 0#2) :
    ∃ i, decodeRead off = .ok i ∧ ∀ s, exec i s = readAs (windowWord s off) s := by
  obtain ⟨k, rfl⟩ := exists_word_of_aligned haligned
  fin_cases k <;> exact ⟨_, rfl, fun _ => rfl⟩

/-- The register map shows the block's registers, not the model's own record of answers and events. -/
theorem windowWord_agenda_reply (s : State) (rest : List Event) (r : Reply) (off : Offset) :
    windowWord { s with agenda := rest, reply := r } off = windowWord s off := rfl

/-- The whole effect of a well-formed read (R59). -/
theorem step_of_wellFormedRead {s : State} {t : Txn} {rest : List Event} (ha : s.agenda = .txn t :: rest)
    (hw : txnWrite t = false) (hwf : accessWellFormed t = true) :
    step s = .next { s with agenda := rest, reply := .read (windowWord s (txnOff t)) .okay } := by
  obtain ⟨i, hrow, hread⟩ := decodeRead_reads_windowWord (aligned_of_accessWellFormed hwf)
  have hd : decode t = .ok i := (decode_of_wellFormedRead hw hwf).trans hrow
  calc step s
      = runTxn t { s with agenda := rest } := step_of_txn ha
    _ = exec i { s with agenda := rest } := runTxn_of_decode_ok hd _
    _ = readAs (windowWord { s with agenda := rest } (txnOff t)) { s with agenda := rest } := hread _
    _ = .next { s with agenda := rest, reply := .read (windowWord s (txnOff t)) .okay } := rfl

/-- Settles O13: the first read leaves every register as it was, so the repeated one finds the same word. -/
theorem wellFormedReadsHaveNoSideEffects : Obligations.WellFormedReadsHaveNoSideEffects := by
  intro s t rest ha hw hwf
  have hfirst := step_of_wellFormedRead ha hw hwf
  refine ⟨hfirst, ?_⟩
  rintro rest' rfl s' s'' hs' hs''
  have hs'_eq := Host.Outcome.next.inj (hs'.symm.trans hfirst)
  have hagenda : s'.agenda = .txn t :: rest' := by rw [hs'_eq]
  have hreply : s'.reply = .read (windowWord s (txnOff t)) .okay := by rw [hs'_eq]
  have hword : windowWord s' (txnOff t) = windowWord s (txnOff t) := by rw [hs'_eq, windowWord_agenda_reply]
  have hs''_eq := Host.Outcome.next.inj (hs''.symm.trans (step_of_wellFormedRead hagenda hw hwf))
  rw [hs''_eq, hword, ← hreply]

end Sys2Proof.Machine
end

section
/-! PROOFS. The algebra of the checksum functions (spec/41_checksum_engine.md R90 to R98): `Step` is linear and
invertible, the table-driven update is eight bit-steps, and a word feed is 32. -/

namespace Sys2Proof.Machine

/-! ### Step: linear over GF(2) (R90) -/

/-- What the bit shifted out of the register feeds back into it (R90). -/
def crcFeedback (s : Word) : Word := if s.getLsbD 0 then crcPoly else 0#32

theorem crcStep_eq (s : Word) : crcStep s = (s >>> 1) ^^^ crcFeedback s := by
  unfold crcStep crcFeedback
  split <;> simp

theorem crcFeedback_xor (a b : Word) : crcFeedback (a ^^^ b) = crcFeedback a ^^^ crcFeedback b := by
  simp only [crcFeedback, BitVec.getLsbD_xor]
  cases a.getLsbD 0 <;> cases b.getLsbD 0 <;> simp

theorem crcStep_xor (a b : Word) : crcStep (a ^^^ b) = crcStep a ^^^ crcStep b := by
  simp only [crcStep_eq, crcFeedback_xor, BitVec.ushiftRight_xor_distrib]
  ac_rfl

/-- A register whose low bit is clear is only shifted. -/
theorem crcStep_of_even {s : Word} (h : s.getLsbD 0 = false) : crcStep s = s >>> 1 := by
  rw [crcStep, h, if_neg Bool.false_ne_true]

/-! ### Step^n -/

theorem crcStepN_eq_iterate (n : Nat) : crcStepN n = crcStep^[n] := by
  funext s
  induction n generalizing s with
  | zero => rfl
  | succ n ih => exact ih (crcStep s)

theorem crcStepN_add (m n : Nat) (s : Word) : crcStepN (m + n) s = crcStepN m (crcStepN n s) := by
  simp only [crcStepN_eq_iterate, Function.iterate_add_apply]

theorem crcStepN_xor (n : Nat) (a b : Word) : crcStepN n (a ^^^ b) = crcStepN n a ^^^ crcStepN n b := by
  induction n generalizing a b with
  | zero => rfl
  | succ n ih => simp only [crcStepN, crcStep_xor, ih]

/-- No feedback happens while only clear bits are shifted out. -/
theorem crcStepN_of_low_clear {n : Nat} {s : Word} (h : ∀ i < n, s.getLsbD i = false) : crcStepN n s = s >>> n := by
  induction n generalizing s with
  | zero => simp [crcStepN]
  | succ n ih =>
    have hshifted : ∀ i < n, (s >>> 1).getLsbD i = false := fun i hi => by
      simpa using h (1 + i) (by omega)
    calc crcStepN (n + 1) s
        = crcStepN n (s >>> 1) := by rw [crcStepN, crcStep_of_even (h 0 n.succ_pos)]
      _ = s >>> 1 >>> n := ih hshifted
      _ = s >>> (n + 1) := by rw [← BitVec.shiftRight_add, Nat.add_comm]

/-! ### The table-driven update (R91, R92, R97) -/

/-- A word is its upper 24 bits and its low byte. -/
theorem high_xor_low (x : Word) : ((x >>> 8) <<< 8) ^^^ (x.extractLsb' 0 8).setWidth 32 = x := by
  apply BitVec.eq_of_getLsbD_eq
  intro i hi
  by_cases hlow : i < 8
  · simp [hi, hlow]
  · have hpos : 8 + (i - 8) = i := by omega
    simp [hi, hlow, hpos]

/-- Eight bit-steps only shift the upper 24 bits down. -/
theorem crcStepN_eight_high (x : Word) : crcStepN 8 ((x >>> 8) <<< 8) = x >>> 8 := by
  have hclear : ∀ i < 8, ((x >>> 8) <<< 8).getLsbD i = false := fun i hi => by simp [hi]
  have hback : ((x >>> 8) <<< 8) >>> 8 = x >>> 8 := by bv_omega
  rw [crcStepN_of_low_clear hclear, hback]

/-- Eight bit-steps shift the upper bits down and take the low byte through the table, by linearity. -/
theorem crcStepN_eight (x : Word) : crcStepN 8 x = (x >>> 8) ^^^ crcTable (x.extractLsb' 0 8) := by
  conv_lhs => rw [← high_xor_low x]
  rw [crcStepN_xor, crcStepN_eight_high, crcTable]

theorem crcUpd_eq_crcStepN (s : Word) (b : Byte) : crcUpd s b = crcStepN 8 (s ^^^ b.setWidth 32) := by
  have hbyte : b.setWidth 32 >>> 8 = 0#32 := by bv_omega
  rw [crcStepN_eight, BitVec.ushiftRight_xor_distrib, hbyte, BitVec.xor_zero, crcUpd]

/-! ### A word feed is 32 bit-steps (R97) -/

/-- The low byte of a word is consumed first; what is above it moves down by eight bits meanwhile. -/
theorem crcStepN_xor_add_eight (n : Nat) (s v : Word) :
    crcStepN (n + 8) (s ^^^ v) = crcStepN n (crcUpd s (v.extractLsb' 0 8) ^^^ (v >>> 8)) := by
  have hsplit : s ^^^ v = (s ^^^ (v.extractLsb' 0 8).setWidth 32) ^^^ ((v >>> 8) <<< 8) := by
    conv_lhs => rw [← high_xor_low v]
    ac_rfl
  rw [crcStepN_add, hsplit, crcStepN_xor, crcStepN_eight_high, ← crcUpd_eq_crcStepN]

theorem extractLsb'_ushiftRight (v : Word) (i j : Nat) : (v >>> i).extractLsb' j 8 = v.extractLsb' (i + j) 8 := by
  ext k hk
  simp [Nat.add_assoc]

theorem crcFeed_le32_eq_crcUpd (s v : Word) :
    crcFeed s (le32 v)
      = crcUpd (crcUpd (crcUpd (crcUpd s (v.extractLsb' 0 8)) (v.extractLsb' 8 8)) (v.extractLsb' 16 8))
          (v.extractLsb' 24 8) := rfl

/-- After the four bytes nothing of the word is left. -/
theorem crcFeed_le32 (s v : Word) : crcFeed s (le32 v) = crcStepN 32 (s ^^^ v) := by
  have hrest : v >>> 8 >>> 8 >>> 8 >>> 8 = 0#32 := by bv_omega
  rw [crcStepN_xor_add_eight 24, crcStepN_xor_add_eight 16, crcStepN_xor_add_eight 8, crcStepN_xor_add_eight 0,
    crcStepN, hrest, BitVec.xor_zero]
  simp only [extractLsb'_ushiftRight, crcFeed_le32_eq_crcUpd]

/-- Settles O22, by the linearity of `Step`: the bits above the low byte are only shifted while it is consumed. -/
theorem tableUpdateIsBitSerial : Obligations.TableUpdateIsBitSerial :=
  ⟨crcUpd_eq_crcStepN, crcFeed_le32⟩

/-! ### Inverses (R95, R98) -/

/-- A word is what a right shift keeps and the bit it drops. -/
theorem ushiftRight_shiftLeft_or_low (s : Word) : (s >>> 1) <<< 1 ||| (BitVec.ofBool (s.getLsbD 0)).setWidth 32 = s := by
  apply BitVec.eq_of_getLsbD_eq
  intro i hi
  cases i with
  | zero => simp
  | succ i => simp [hi, Nat.add_comm 1 i]

/-- A left shift loses nothing of a word whose top bit is clear, whatever bit it takes in. -/
theorem ushiftRight_of_shiftLeft_or {y : Word} (htop : y.getLsbD 31 = false) (b : Bool) :
    (y <<< 1 ||| (BitVec.ofBool b).setWidth 32) >>> 1 = y := by
  apply BitVec.eq_of_getLsbD_eq
  intro i hi
  rcases Nat.lt_succ_iff_lt_or_eq.mp hi with hlow | rfl
  · have hnext : 1 + i < 32 := by omega
    simp [hi, hnext]
  · simpa using htop.symm

theorem crcPoly_top : crcPoly.getLsbD 31 = true := by decide

/-- The polynomial's top bit marks the words that feedback has entered, so `InvStep` knows which branch `Step` took. -/
theorem crcInvStep_crcStep (s : Word) : crcInvStep (crcStep s) = s := by
  have hsplit := ushiftRight_shiftLeft_or_low s
  have htop : (s >>> 1).getLsbD 31 = false := by simp
  cases hbit : s.getLsbD 0 with
  | false =>
    rw [hbit] at hsplit
    rw [crcStep_of_even hbit, crcInvStep, htop, if_neg Bool.false_ne_true]
    simpa using hsplit
  | true =>
    rw [hbit] at hsplit
    have hstep : crcStep s = (s >>> 1) ^^^ crcPoly := by rw [crcStep, if_pos hbit]
    have hmark : ((s >>> 1) ^^^ crcPoly).getLsbD 31 = true := by rw [BitVec.getLsbD_xor, htop, crcPoly_top]; rfl
    rw [hstep, crcInvStep, if_pos hmark, BitVec.xor_assoc, BitVec.xor_self, BitVec.xor_zero]
    exact hsplit

theorem crcStep_crcInvStep (y : Word) : crcStep (crcInvStep y) = y := by
  cases htop : y.getLsbD 31 with
  | false =>
    have hinv : crcInvStep y = y <<< 1 := by rw [crcInvStep, htop, if_neg Bool.false_ne_true]
    have hback := ushiftRight_of_shiftLeft_or htop false
    rw [hinv, crcStep_of_even (by simp)]
    simpa using hback
  | true =>
    have hinv : crcInvStep y = (y ^^^ crcPoly) <<< 1 ||| 1#32 := by rw [crcInvStep, if_pos htop]
    have hclear : (y ^^^ crcPoly).getLsbD 31 = false := by rw [BitVec.getLsbD_xor, htop, crcPoly_top]; rfl
    have hback : ((y ^^^ crcPoly) <<< 1 ||| 1#32) >>> 1 = y ^^^ crcPoly := ushiftRight_of_shiftLeft_or hclear true
    have hodd : ((y ^^^ crcPoly) <<< 1 ||| 1#32).getLsbD 0 = true := by simp
    rw [hinv, crcStep, if_pos hodd, hback, BitVec.xor_assoc, BitVec.xor_self, BitVec.xor_zero]

theorem crcStep_bijective : Function.Bijective crcStep :=
  Function.bijective_iff_has_inverse.mpr ⟨crcInvStep, crcInvStep_crcStep, crcStep_crcInvStep⟩

theorem crcStepN_bijective (n : Nat) : Function.Bijective (crcStepN n) := by
  rw [crcStepN_eq_iterate]
  exact crcStep_bijective.iterate n

theorem crcFin_involutive : Function.Involutive crcFin := fun _ => BitVec.not_not

theorem xor_left_involutive (p : Word) : Function.Involutive (p ^^^ ·) := xor_cancel_left p

/-- R98: XOR with the state before the tail, then `Step^32`, then the complement. -/
theorem crcFin_crcFeed_le32_bijective (p : Word) : Function.Bijective (fun v : Word => crcFin (crcFeed p (le32 v))) := by
  have hcomp : (fun v : Word => crcFin (crcFeed p (le32 v))) = crcFin ∘ crcStepN 32 ∘ (p ^^^ ·) :=
    funext fun v => congrArg crcFin (crcFeed_le32 p v)
  rw [hcomp]
  exact crcFin_involutive.bijective.comp ((crcStepN_bijective 32).comp (xor_left_involutive p).bijective)

/-- Settles O23: the checksum of a tail composes three bijections. -/
theorem bitStepIsABijection : Obligations.BitStepIsABijection :=
  ⟨crcInvStep_crcStep, crcStep_crcInvStep, crcStep_bijective, crcStepN_bijective 32, crcFin_crcFeed_le32_bijective⟩

end Sys2Proof.Machine
end

section
/-! PROOFS. The checksum engine's operations (spec/41_checksum_engine.md R96, R100 to R110) and the rejected writes to
read-only registers (R108, R131, R133, R135, R161, R165, R170, R172). -/

namespace Sys2Proof.Machine

/-! ### Checksums of byte sequences (R93, R96, R110) -/

theorem crcFeed_append (s : Word) (a b : List Byte) : crcFeed s (a ++ b) = crcFeed (crcFeed s a) b := by
  induction a generalizing s with
  | nil => rfl
  | cons x a ih => exact ih (crcUpd s x)

theorem checksum_append (a b : List Byte) : checksum (a ++ b) = crcFin (crcFeed (crcFeed crcInit a) b) := by
  rw [checksum, crcFeed_append]

theorem crcFin_eq_xor (s : Word) : crcFin s = s ^^^ 0xFFFFFFFF := BitVec.xor_allOnes.symm

/-- Settles O27: complementing is XOR with all-ones. -/
theorem checksumCheckValues : Obligations.ChecksumCheckValues :=
  ⟨fun bytes => crcFin_eq_xor (crcFeed crcInit bytes), by decide, by decide⟩

/-! ### The engine's writes: each is a gated load of CRC_STATE (R100 to R102, R105) -/

/-- The gated write that loads CRC_STATE with a function of its old value. -/
def gatedCrcLoad (f : Word → Word) (s : State) : Out := gatedWrite (fun s => { s with crcState := f s.crcState }) s

theorem gatedCrcLoad_of_idle (f : Word → Word) {s : State} (h : s.busy = false) :
    gatedCrcLoad f s = .next { s with crcState := f s.crcState, reply := .write .okay } :=
  gatedWrite_of_idle _ s h

theorem gatedCrcLoad_of_busy (f : Word → Word) {s : State} (h : s.busy = true) :
    gatedCrcLoad f s = .next { s with errcode := if s.errcode = 0 then 1 else s.errcode, reply := .write .error } :=
  gatedWrite_of_busy _ s h

theorem exec_wrData8 (b : Byte) (s : State) : exec (.wrData8 b) s = gatedCrcLoad (crcUpd · b) s := rfl

theorem exec_wrData32 (w : Word) (s : State) : exec (.wrData32 w) s = gatedCrcLoad (crcFeed · (le32 w)) s := rfl

theorem exec_wrCrcState (v : Word) (s : State) : exec (.wrCrcState v) s = gatedCrcLoad (fun _ => v) s := rfl

theorem exec_wrCmdInit (s : State) : exec .wrCmdInit s = gatedCrcLoad (fun _ => 0xFFFFFFFF) s := rfl

theorem decode_write_data8 (d : Word) : decode (writeTxn 0x10 d) = .ok (.wrData8 (d.extractLsb' 0 8)) :=
  decode_writeTxn _ d rfl

theorem decode_write_data32 (d : Word) : decode (writeTxn 0x14 d) = .ok (.wrData32 d) := decode_writeTxn _ d rfl

/-- Settles O18, by the two outcomes of the gated load. -/
theorem writeData8FeedsOneByte : Obligations.WriteData8FeedsOneByte := by
  refine ⟨decode_write_data8, fun b s hidle => ?_, fun b s hbusy => ?_, by decide, by decide, by decide⟩
  · rw [exec_wrData8, gatedCrcLoad_of_idle _ hidle]
  · rw [exec_wrData8, gatedCrcLoad_of_busy _ hbusy]

/-- Settles O19: the gated load of a word feed, whose two other forms are R97's. -/
theorem writeData32FeedsFourBytes : Obligations.WriteData32FeedsFourBytes := by
  refine ⟨decode_write_data32, fun w s hidle => ⟨?_, crcFeed_le32 _ w, crcFeed_le32_eq_crcUpd _ w⟩,
    fun w s hbusy => ?_, by decide, by decide, by decide⟩
  · rw [exec_wrData32, gatedCrcLoad_of_idle _ hidle]
  · rw [exec_wrData32, gatedCrcLoad_of_busy _ hbusy]

/-- Settles O20: INIT is the gated load of all-ones. -/
theorem crcStateIsLoadedAndInitialised : Obligations.CrcStateIsLoadedAndInitialised := by
  refine ⟨fun d => decode_writeTxn _ d rfl, decode_writeTxn _ _ rfl, fun v s hidle => ?_, fun s hidle => ?_,
    fun v s hbusy => ⟨?_, ?_⟩, crcFin_involutive, fun s => ?_⟩
  · rw [exec_wrCrcState, gatedCrcLoad_of_idle _ hidle]
  · rw [exec_wrCmdInit, gatedCrcLoad_of_idle _ hidle]
  · rw [exec_wrCrcState, gatedCrcLoad_of_busy _ hbusy]
  · rw [exec_wrCmdInit, gatedCrcLoad_of_busy _ hbusy]
  · rw [exec_wrCrcState, exec_wrCmdInit]

/-! ### The engine's reads (R103, R104, R106, R107) -/

theorem readAs_eq (v : Word) (s : State) : readAs v s = .next { s with reply := .read v .okay } := rfl

theorem exec_rdCrcState (s : State) : exec .rdCrcState s = readAs s.crcState s := rfl

theorem exec_rdCrcResult (s : State) : exec .rdCrcResult s = readAs (crcFin s.crcState) s := rfl

theorem exec_rdData8 (s : State) : exec .rdData8 s = readAs 0 s := rfl

theorem exec_rdData32 (s : State) : exec .rdData32 s = readAs 0 s := rfl

/-- Settles O21: each row is a read of one word. -/
theorem engineReadsAnswerTheirRegisters : Obligations.EngineReadsAnswerTheirRegisters := by
  refine ⟨fun d => ?_, fun s => ⟨?_, ?_, ?_, ?_, rfl⟩⟩
  · exact ⟨decode_wordRead _ d rfl, decode_wordRead _ d rfl, decode_wordRead _ d rfl, decode_wordRead _ d rfl⟩
  · rw [exec_rdCrcState, readAs_eq]
  · rw [exec_rdCrcResult, readAs_eq, crcFin_eq_xor]
  · rw [exec_rdData8, readAs_eq]
  · rw [exec_rdData32, readAs_eq]

/-! ### Rejected writes (R192) -/

theorem readOnlyWrite_eq (s : State) :
    readOnlyWrite s
      = .next { s with errcode := if s.errcode = 0 then 4 else s.errcode, reply := .write .error } := rfl

/-- The operations of the read-only registers and the reserved slots have one meaning, in every state. -/
theorem exec_eq_readOnlyWrite {i : Instr} {off : Offset} (s : State)
    (hi : i ∈ [.wrCrcResult, .wrPrefix, .wrResult, .wrResultLane, .wrId, .wrStatus, .wrLaneMax, .wrRsvd off]) :
    exec i s = readOnlyWrite s := by
  simp only [List.mem_cons, List.not_mem_nil, or_false] at hi
  rcases hi with rfl | rfl | rfl | rfl | rfl | rfl | rfl | rfl <;> rfl

/-- Settles O32: every one of them is `readOnlyWrite`, which no state and no data changes. -/
theorem readOnlyWritesAreRejected : Obligations.ReadOnlyWritesAreRejected := by
  refine ⟨fun d => ?_, fun s off i hi => ?_⟩
  · exact ⟨decode_writeTxn _ d rfl, decode_writeTxn _ d rfl, decode_writeTxn _ d rfl, decode_writeTxn _ d rfl,
      decode_writeTxn _ d rfl, decode_writeTxn _ d rfl, decode_writeTxn _ d rfl, decode_writeTxn _ d rfl,
      decode_writeTxn _ d rfl⟩
  · rw [exec_eq_readOnlyWrite s hi, readOnlyWrite_eq]

/-! ### A stream of writes (R110) -/

/-- A write that feeds the engine: DATA8 or DATA32. -/
def FeedsBytes (i : Instr) : Prop := (∃ b, i = .wrData8 b) ∨ ∃ w, i = .wrData32 w

theorem decode_encode_of_feedsBytes {i : Instr} (hi : FeedsBytes i) : decode (encode i) = .ok i := by
  rcases hi with ⟨b, rfl⟩ | ⟨w, rfl⟩
  · have hbyte : (b.setWidth 32).extractLsb' 0 8 = b := by
      ext k hk
      have hword : k < 32 := by omega
      simp [hk, hword]
    rw [encode, decode_write_data8, hbyte]
  · exact decode_write_data32 w

theorem exec_of_feedsBytes {i : Instr} (hi : FeedsBytes i) {s : State} (hidle : s.busy = false) :
    exec i s = .next { s with crcState := crcFeed s.crcState (fedBytes i), reply := .write .okay } := by
  rcases hi with ⟨b, rfl⟩ | ⟨w, rfl⟩
  · rw [exec_wrData8, gatedCrcLoad_of_idle _ hidle, fedBytes, crcFeed, crcFeed]
  · rw [exec_wrData32, gatedCrcLoad_of_idle _ hidle, fedBytes]

/-- One write of a stream, issued as the next transaction. -/
theorem step_of_feedsBytes {i : Instr} (hi : FeedsBytes i) {s : State} (hidle : s.busy = false) (rest : List Event) :
    step { s with agenda := .txn (encode i) :: rest } = .next { s with
      agenda := rest, crcState := crcFeed s.crcState (fedBytes i), reply := .write .okay } :=
  calc step { s with agenda := .txn (encode i) :: rest }
      = runTxn (encode i) { s with agenda := rest } := step_of_txn rfl
    _ = exec i { s with agenda := rest } := runTxn_of_decode_ok (decode_encode_of_feedsBytes hi) _
    _ = _ := exec_of_feedsBytes hi hidle

theorem run_succ_of_next {M : Host.Core} {s t : M.State} (h : M.step s = .next t) (k : Nat) :
    M.run (k + 1) s = M.run k t := by
  rw [Host.Core.run, h]

theorem run_succ_of_step {s t : State} (h : step s = .next t) (k : Nat) :
    Host.Core.run Sys2Proof.core (k + 1) s = Host.Core.run Sys2Proof.core k t :=
  run_succ_of_next (M := Sys2Proof.core) (s := s) h k

/-- A stream of writes leaves CRC_STATE fed with its bytes, in order. -/
theorem run_feedingWrites (s : State) (ops : List Instr) (rest : List Event) (hidle : s.busy = false)
    (hops : ∀ i ∈ ops, FeedsBytes i) :
    ∃ r, Host.Core.run Sys2Proof.core ops.length { s with agenda := issueOps ops ++ rest }
      = .next { s with agenda := rest, crcState := crcFeed s.crcState (ops.flatMap fedBytes), reply := r } := by
  induction ops generalizing s with
  | nil => exact ⟨s.reply, rfl⟩
  | cons i ops ih =>
    have hi : FeedsBytes i := hops i List.mem_cons_self
    have hops' : ∀ j ∈ ops, FeedsBytes j := fun j hj => hops j (List.mem_cons_of_mem i hj)
    obtain ⟨r, hr⟩ := ih { s with crcState := crcFeed s.crcState (fedBytes i), reply := .write .okay } hidle hops'
    refine ⟨r, ?_⟩
    rw [List.flatMap_cons, crcFeed_append]
    exact (run_succ_of_step (step_of_feedsBytes hi hidle (issueOps ops ++ rest)) ops.length).trans hr

/-- Settles O25: feeding composes, so a run of writes feeds the concatenation. -/
theorem feedingIsIndependentOfTheSplit : Obligations.FeedingIsIndependentOfTheSplit :=
  ⟨crcFeed_append, fun original injection v => checksum_append (original ++ injection) (le32 v), run_feedingWrites⟩

end Sys2Proof.Machine
end

section
/-! PROOFS. The collision search (spec/42_collision_search.md R120 to R129, R136, R140): the gated writes of its
registers, the partition of the tails, and what START, a lane step and the completion step do. -/

namespace Sys2Proof.Machine

/-! ### The search registers' gated writes (R120, R122, R123, R136) -/

/-- A gated write during a search, field by field: Reject(BUSY) (R191, R193). -/
theorem gatedWrite_busy_eq (f : State → State) {s : State} (h : s.busy = true) :
    gatedWrite f s = .next { s with errcode := if s.errcode = 0 then 1 else s.errcode, reply := .write .error } :=
  gatedWrite_of_busy f s h

theorem exec_wrTarget (v : Word) (s : State) :
    exec (.wrTarget v) s = gatedWrite (fun s => { s with target := v }) s := rfl

theorem exec_wrCmdCaptureTarget (s : State) :
    exec .wrCmdCaptureTarget s = gatedWrite (fun s => { s with target := crcFin s.crcState }) s := rfl

theorem exec_wrLanes (d : Word) (s : State) :
    exec (.wrLanes d) s = gatedWrite (fun s => { s with lanes := legalLanes s.params.nlanesMax d }) s := rfl

theorem exec_wrCmdStart (s : State) : exec .wrCmdStart s = gatedWrite startSearch s := rfl

theorem exec_wrCmdAck (s : State) : exec .wrCmdAck s = gatedWrite (fun s => { s with done := false }) s := rfl

/-- A tail equal to the state before it clears the register, as 32 bit-steps of zero (R97). -/
theorem crcFeed_le32_self (s : Word) : crcFeed s (le32 s) = 0#32 := by
  rw [crcFeed_le32, BitVec.xor_self, crcStepN_of_low_clear (fun _ _ => BitVec.getLsbD_zero), BitVec.zero_ushiftRight]

/-- Settles O28: both are gated loads of TARGET, and the sentinel tail equals the state of an empty stream. -/
theorem targetIsWrittenAndCaptured : Obligations.TargetIsWrittenAndCaptured := by
  refine ⟨fun d => decode_writeTxn _ d rfl, decode_writeTxn _ _ rfl, fun v s hidle => ?_, fun s hidle => ?_,
    fun v s hbusy => ⟨?_, ?_⟩, ?_⟩
  · rw [exec_wrTarget, gatedWrite_of_idle _ s hidle, answerWrite]
  · rw [exec_wrCmdCaptureTarget, gatedWrite_of_idle _ s hidle, answerWrite, crcFin_eq_xor]
  · rw [exec_wrTarget, gatedWrite_busy_eq _ hbusy]
  · rw [exec_wrCmdCaptureTarget, gatedWrite_busy_eq _ hbusy]
  · rw [crcFeed_le32_self]
    decide

/-- Settles O31: irq is the conjunction of DONE and IRQEN, and ACK leaves DONE 0. -/
theorem acknowledgeClearsDone : Obligations.AcknowledgeClearsDone := by
  have haccept {s : State} (hidle : s.busy = false) :
      exec .wrCmdAck s = .next { s with done := false, reply := .write .okay } := by
    rw [exec_wrCmdAck, gatedWrite_of_idle _ s hidle, answerWrite]
  refine ⟨decode_writeTxn _ _ rfl, fun s hidle => ⟨haccept hidle, fun t ht => ?_⟩, fun s hbusy => ?_⟩
  · have hdone : t.done = false := by rw [← Host.Outcome.next.inj ((haccept hidle).symm.trans ht)]
    rw [State.irq, hdone, Bool.false_and]
  · rw [exec_wrCmdAck, gatedWrite_busy_eq _ hbusy]

/-! ### The legalised worker count (R123) -/

/-- NLANES_MAX is at most 256 (R6), so the nine bits of LANES can hold it. -/
theorem nlanesMax_le (p : Params) : p.nlanesMax ≤ 256 := p.lanesMinusOne.isLt

theorem legalLanes_zero (n : Nat) : legalLanes n 0#32 = 1#9 := if_pos rfl

theorem legalLanes_toNat_of_le {n : Nat} {d : Word} (hn : n ≤ 256) (hpos : 1 ≤ d.toNat) (hle : d.toNat ≤ n) :
    (legalLanes n d).toNat = d.toNat := by
  have hne : d ≠ 0#32 := by rintro rfl; contradiction
  rw [legalLanes, if_neg hne, if_pos hle, BitVec.toNat_ofNat, Nat.mod_eq_of_lt (by omega)]

theorem legalLanes_toNat_of_lt {n : Nat} {d : Word} (hn : n ≤ 256) (hlt : n < d.toNat) :
    (legalLanes n d).toNat = n := by
  have hne : d ≠ 0#32 := by rintro rfl; contradiction
  rw [legalLanes, if_neg hne, if_neg (by omega), BitVec.toNat_ofNat, Nat.mod_eq_of_lt (by omega)]

/-- Settles O29: the word loaded is `legalLanes`, read in its three ranges. -/
theorem workerCountIsLegalised : Obligations.WorkerCountIsLegalised := by
  refine ⟨fun d => decode_writeTxn _ d rfl, fun d s hidle => ⟨legalLanes s.params.nlanesMax d, ?_, ?_, ?_, ?_⟩,
    fun d s hbusy => ?_⟩
  · rw [exec_wrLanes, gatedWrite_of_idle _ s hidle, answerWrite]
  · rintro rfl
    exact congrArg BitVec.toNat (legalLanes_zero _)
  · exact legalLanes_toNat_of_le (nlanesMax_le s.params)
  · exact legalLanes_toNat_of_lt (nlanesMax_le s.params)
  · rw [exec_wrLanes, gatedWrite_busy_eq _ hbusy]

/-! ### The partition of the tails (R125, R140)

All of R140 follows from three facts: ranges of R tails are not empty, T of them are enough for all tails, and T − 1 of
them are not. -/

section partition
variable {t : Nat}

theorem rangeSize_pos (ht : 1 ≤ t) : 0 < rangeSize t :=
  Nat.div_pos (by unfold tailCount; omega) ht

/-- R rounds up. -/
theorem tailCount_le_mul_rangeSize (ht : 1 ≤ t) : tailCount ≤ t * rangeSize t := by
  have hround : tailCount + t - 1 < t * (rangeSize t + 1) := Nat.lt_mul_div_succ _ ht
  rw [Nat.mul_succ] at hround
  omega

/-- R exceeds the exact quotient by less than 1, so T ranges exceed the tails by less than T, and `T ≤ R`. -/
theorem pred_mul_rangeSize_lt (ht : 1 ≤ t) (ht' : t ≤ 256) : (t - 1) * rangeSize t < tailCount := by
  have hround : rangeSize t * t ≤ tailCount + t - 1 := Nat.div_mul_le_self _ t
  have hbig : t ≤ rangeSize t := by
    rw [rangeSize, Nat.le_div_iff_mul_le ht]
    have hsq : t * t ≤ 256 * 256 := Nat.mul_le_mul ht' ht'
    unfold tailCount
    omega
  have hpos : 0 < tailCount := Nat.two_pow_pos 32
  rw [Nat.sub_mul, Nat.one_mul, Nat.mul_comm]
  omega

theorem mul_rangeSize_lt {i : Nat} (ht' : t ≤ 256) (hi : i < t) : i * rangeSize t < tailCount :=
  calc i * rangeSize t
      ≤ (t - 1) * rangeSize t := Nat.mul_le_mul_right _ (by omega)
    _ < tailCount := pred_mul_rangeSize_lt (by omega) ht'

/-- The clamp does not act on the start of a range. -/
theorem rangeStart_eq {i : Nat} (ht' : t ≤ 256) (hi : i < t) : rangeStart t i = i * rangeSize t :=
  Nat.min_eq_left (mul_rangeSize_lt ht' hi).le

/-- A range ends where the next one starts. -/
theorem rangeEnd_eq_rangeStart_succ (t i : Nat) : rangeEnd t i = rangeStart t (i + 1) := rfl

/-- The clamp acts on no end but the last. -/
theorem rangeEnd_eq {i : Nat} (ht' : t ≤ 256) (hi : i + 1 < t) : rangeEnd t i = (i + 1) * rangeSize t := by
  rw [rangeEnd_eq_rangeStart_succ, rangeStart_eq ht' hi]

theorem rangeEnd_last (ht : 1 ≤ t) : rangeEnd t (t - 1) = tailCount := by
  rw [rangeEnd, Nat.sub_add_cancel ht]
  exact Nat.min_eq_right (tailCount_le_mul_rangeSize ht)

theorem rangeStart_lt_rangeEnd {i : Nat} (ht' : t ≤ 256) (hi : i < t) : rangeStart t i < rangeEnd t i := by
  have hpos : 0 < rangeSize t := rangeSize_pos (by omega)
  rw [rangeStart_eq ht' hi, rangeEnd, Nat.lt_min, Nat.succ_mul]
  exact ⟨by omega, mul_rangeSize_lt ht' hi⟩

/-- Every range but the last holds R tails. -/
theorem rangeEnd_sub_rangeStart {i : Nat} (ht' : t ≤ 256) (hi : i + 1 < t) :
    rangeEnd t i - rangeStart t i = rangeSize t := by
  rw [rangeEnd_eq ht' hi, rangeStart_eq ht' (by omega), Nat.succ_mul, Nat.add_sub_cancel_left]

/-- The last range holds what is left over: at least one tail and at most R. -/
theorem leftover_bounds (ht : 1 ≤ t) (ht' : t ≤ 256) :
    1 ≤ tailCount - (t - 1) * rangeSize t ∧ tailCount - (t - 1) * rangeSize t ≤ rangeSize t := by
  have henough := tailCount_le_mul_rangeSize ht
  have hneeded := pred_mul_rangeSize_lt ht ht'
  have hsplit : t * rangeSize t = (t - 1) * rangeSize t + rangeSize t := by
    rw [← Nat.succ_mul, Nat.succ_eq_add_one, Nat.sub_add_cancel ht]
  omega

/-- The range of a tail is its quotient by R. -/
theorem mem_range_iff {i v : Nat} (ht' : t ≤ 256) (hi : i < t) (hv : v < tailCount) :
    rangeStart t i ≤ v ∧ v < rangeEnd t i ↔ i = v / rangeSize t := by
  have hpos : 0 < rangeSize t := rangeSize_pos (by omega)
  rw [rangeStart_eq ht' hi, rangeEnd, Nat.lt_min, and_iff_left hv, ← Nat.le_div_iff_mul_le hpos,
    ← Nat.div_lt_iff_lt_mul hpos]
  omega

theorem div_rangeSize_lt {v : Nat} (ht : 1 ≤ t) (hv : v < tailCount) : v / rangeSize t < t :=
  (Nat.div_lt_iff_lt_mul (rangeSize_pos ht)).mpr (hv.trans_le (tailCount_le_mul_rangeSize ht))

end partition

/-- Settles O33, clause by clause from what each range's ends are. -/
theorem partitionCoversEveryTailOnce : Obligations.PartitionCoversEveryTailOnce := by
  intro t ht ht'
  have hfirst : rangeStart t 0 = 0 := by rw [rangeStart_eq ht' ht, Nat.zero_mul]
  have hlast : rangeEnd t (t - 1) - rangeStart t (t - 1) = tailCount - (t - 1) * rangeSize t := by
    rw [rangeEnd_last ht, rangeStart_eq ht' (by omega)]
  obtain ⟨hleft_pos, hleft_le⟩ := leftover_bounds ht ht'
  exact ⟨hfirst, rangeEnd_last ht, fun i _ => rangeEnd_eq_rangeStart_succ t i, fun i => rangeStart_lt_rangeEnd ht',
    fun i => rangeEnd_sub_rangeStart ht', hlast, hleft_pos, hleft_le, fun v hv i hi => mem_range_iff ht' hi hv,
    fun v => div_rangeSize_lt ht, fun i => rangeStart_eq ht', fun i => rangeEnd_eq ht'⟩

/-! ### START (R126) -/

/-- A lane that takes part is armed with its range. -/
theorem startLane_of_lt {t i : Nat} (hi : i < t) (l : Lane) :
    startLane t i l
      = { active := true, cur := BitVec.ofNat 33 (rangeStart t i), limit := BitVec.ofNat 33 (rangeEnd t i),
          found := false, val := 0#32 } := if_pos hi

/-- A lane that takes no part only becomes inactive. -/
theorem startLane_of_ge {t i : Nat} (hi : t ≤ i) (l : Lane) : startLane t i l = { l with active := false } :=
  if_neg (by omega)

/-- Settles O34: the lane file after START is `startLane` of each old entry. -/
theorem startBeginsASearch : Obligations.StartBeginsASearch := by
  refine ⟨decode_writeTxn _ _ rfl, fun s hidle => ⟨answerWrite (startSearch s), ?_, rfl, ?_, fun i l hl => ?_⟩,
    fun s hbusy => ?_⟩
  · rw [exec_wrCmdStart, gatedWrite_of_idle _ s hidle]
  · rw [answerWrite_laneFile, startSearch_laneFile_length]
  · rw [answerWrite_laneFile, startSearch_laneFile, List.getElem?_mapIdx, Option.map_eq_some_iff] at hl
    obtain ⟨old, -, rfl⟩ := hl
    exact ⟨fun hi => startLane_of_lt hi old, fun hi => by rw [startLane_of_ge hi]⟩
  · rw [exec_wrCmdStart, gatedWrite_busy_eq _ hbusy]

/-! ### The lane step (R127) -/

/-- A step whose oldest event is a lane step performs it. -/
theorem step_of_lane {s : State} {i : Nat} {rest : List Event} (ha : s.agenda = .lane i :: rest) :
    step s = .next (laneStep i { s with agenda := rest }) := by
  simp [step, ha]

theorem laneStep_of_enabled {s : State} {i : Nat} {l : Lane} (hl : s.laneFile[i]? = some l)
    (he : laneEnabled s l = true) : laneStep i s = { s with laneFile := s.laneFile.set i (testTail s l) } := by
  simp [laneStep, hl, he]

/-- The lane step reads nothing of the agenda, so taking the event off leaves the test as it is. -/
theorem step_of_enabledLane {s : State} {i : Nat} {l : Lane} {rest : List Event} (ha : s.agenda = .lane i :: rest)
    (hl : s.laneFile[i]? = some l) (he : laneEnabled s l = true) :
    step s = .next { s with agenda := rest, laneFile := s.laneFile.set i (testTail s l) } :=
  (step_of_lane ha).trans (congrArg Host.Outcome.next (laneStep_of_enabled (s := { s with agenda := rest }) hl he))

theorem tailMatches_iff (s : State) (v : Word) :
    tailMatches s v = true ↔ crcFin (crcFeed s.prefixState (le32 v)) = s.target ∧ s.noMatch = false := by
  simp [tailMatches]

theorem testTail_of_match {s : State} {l : Lane} (hm : tailMatches s (l.cur.setWidth 32) = true) :
    testTail s l = { l with found := true, val := l.cur.setWidth 32 } := if_pos hm

theorem testTail_of_no_match {s : State} {l : Lane} (hm : ¬ tailMatches s (l.cur.setWidth 32) = true) :
    testTail s l = { l with cur := l.cur + 1 } := if_neg hm

/-- A counter below another does not wrap when it is incremented. -/
theorem toNat_add_one_of_lt {c d : Count} (h : c.toNat < d.toNat) : (c + 1).toNat = c.toNat + 1 := by
  bv_omega

/-- Settles O35: the comparator's two answers decide what `testTail` writes. -/
theorem laneStepTestsOneTail : Obligations.LaneStepTestsOneTail := by
  intro s i l rest ha hl hbusy hactive hfound hlt
  have he : laneEnabled s l = true := (laneEnabled_iff s l).mpr ⟨hbusy, hactive, hfound, hlt⟩
  constructor
  · intro hmatch
    rw [step_of_enabledLane ha hl he, testTail_of_match ((tailMatches_iff _ _).mpr hmatch)]
  · intro hno
    rw [step_of_enabledLane ha hl he, testTail_of_no_match (mt (tailMatches_iff _ _).mp hno)]
    exact ⟨rfl, toNat_add_one_of_lt hlt⟩

/-! ### The completion step (R129) -/

/-- A step whose oldest event is the completion step performs it. -/
theorem step_of_complete {s : State} {rest : List Event} (ha : s.agenda = .complete :: rest) :
    step s = .next (completionStep { s with agenda := rest }) := by
  simp [step, ha]

theorem completionStep_of_enabled {s : State} (he : completionEnabled s = true) : completionStep s = completeSearch s :=
  if_pos he

/-- `Complete()` reads nothing of the agenda either. -/
theorem step_of_enabledCompletion {s : State} {rest : List Event} (ha : s.agenda = .complete :: rest)
    (he : completionEnabled s = true) : step s = .next { completeSearch s with agenda := rest } :=
  (step_of_complete ha).trans (congrArg Host.Outcome.next (completionStep_of_enabled (s := { s with agenda := rest }) he))

/-- The converse of `firstWinner_some`: an active lane that matched, with none such before it, is the winner. -/
theorem firstWinner_eq_of_lowest {ls : List Lane} {k : Nat} {l : Lane} (hl : ls[k]? = some l)
    (hwins : l.active = true ∧ l.found = true)
    (hlowest : ∀ (j : Nat) (m : Lane), j < k → ls[j]? = some m → ¬ (m.active = true ∧ m.found = true)) :
    firstWinner 0 ls = some (k, l.val) := by
  cases hw : firstWinner 0 ls with
  | none => exact absurd hwins (firstWinner_none.mp hw l (List.mem_of_getElem? hl))
  | some winner =>
    obtain ⟨k', v⟩ := winner
    obtain ⟨m, -, hm, hactive, hfound, rfl, hbefore⟩ := firstWinner_some hw
    rw [Nat.sub_zero] at hm hbefore
    rcases Nat.lt_trichotomy k' k with hlt | rfl | hgt
    · exact absurd ⟨hactive, hfound⟩ (hlowest k' m hlt hm)
    · rw [Option.some.inj (hm.symm.trans hl)]
    · exact absurd hwins (hbefore k l hgt hl)

theorem completeSearch_of_winner {s : State} {k : Nat} {v : Word} (hw : firstWinner 0 s.laneFile = some (k, v)) :
    completeSearch s = { s with
      found := true, result := v, resultLane := BitVec.ofNat 8 k
      laneFile := s.laneFile.map (fun m => { m with active := false }), busy := false, done := true } := by
  simp [completeSearch, hw]

theorem completeSearch_of_no_winner {s : State} (hw : firstWinner 0 s.laneFile = none) :
    completeSearch s = { s with
      found := false, result := 0xFFFFFFFF, resultLane := 0
      laneFile := s.laneFile.map (fun m => { m with active := false }), busy := false, done := true } := by
  simp [completeSearch, hw, sentinel]

/-- Settles O36: the step is `Complete()`, which reports the lane that `firstWinner` finds. -/
theorem completionSelectsTheLowestLane : Obligations.CompletionSelectsTheLowestLane := by
  intro s rest ha hbusy hfinished
  have hstep := step_of_enabledCompletion ha ((completionEnabled_iff s).mpr ⟨hbusy, hfinished⟩)
  constructor
  · intro k l hl hactive hfound hlowest
    rw [hstep, completeSearch_of_winner (firstWinner_eq_of_lowest hl ⟨hactive, hfound⟩ hlowest)]
  · intro hnone
    rw [hstep, completeSearch_of_no_winner (firstWinner_none.mpr hnone)]

end Sys2Proof.Machine
end

section
/-! PROOFS. The control and status registers (spec/43_control_status.md R160 to R173): the words that CTRL and STATUS
read, the two kinds of write to CTRL, the constant reads, CLEAR_ERR and the illegal command words. -/

namespace Sys2Proof.Machine

/-! ### The bits of CTRL and STATUS (R162, R168) -/

/-- A flag stands in the one bit it is shifted to. -/
theorem getLsbD_flagWord_shiftLeft (b : Bool) {n : Nat} (hn : n < 32) (i : Nat) :
    (flagWord b <<< n).getLsbD i = (decide (i = n) && b) := by
  rw [flagWord, BitVec.getLsbD_shiftLeft]
  rcases Nat.lt_trichotomy i n with hlt | rfl | hgt
  · simp [hlt, hlt.ne]
  · simp [hn]
  · simp [hgt.ne', show i - n ≠ 0 by omega]

theorem getLsbD_flagWord (b : Bool) (i : Nat) : (flagWord b).getLsbD i = (decide (i = 0) && b) :=
  BitVec.shiftLeft_zero (flagWord b) ▸ getLsbD_flagWord_shiftLeft b (by decide) i

theorem getLsbD_ctrlWord (s : State) (i : Nat) :
    (ctrlWord s).getLsbD i = (decide (i = 2) && s.irqEn || decide (i = 1) && s.noMatch) := by
  rw [ctrlWord, BitVec.getLsbD_or, getLsbD_flagWord_shiftLeft _ (by decide), getLsbD_flagWord_shiftLeft _ (by decide)]

/-- ERRCODE stands in bits 7:4 of STATUS (R31). -/
theorem getLsbD_errcodeField (e : BitVec 4) (i : Nat) :
    (e.setWidth 32 <<< 4).getLsbD i = (!decide (i < 4) && e.getLsbD (i - 4)) := by
  have hzero : 4 ≤ i - 4 → e.getLsbD (i - 4) = false := e.getLsbD_of_ge _
  by_cases hi : i < 32
  · simp [hi]
  · simp [hi, hzero (by omega)]

theorem getLsbD_statusWord (s : State) (i : Nat) :
    (statusWord s).getLsbD i =
      (decide (i = 0) && s.busy || decide (i = 1) && s.done || decide (i = 2) && s.found || decide (i = 3) && s.errFlag
        || !decide (i < 4) && s.errcode.getLsbD (i - 4) || decide (i = 8) && s.irq) := by
  simp only [statusWord, BitVec.getLsbD_or, getLsbD_flagWord, getLsbD_errcodeField,
    getLsbD_flagWord_shiftLeft _ (show 1 < 32 by decide), getLsbD_flagWord_shiftLeft _ (show 2 < 32 by decide),
    getLsbD_flagWord_shiftLeft _ (show 3 < 32 by decide), getLsbD_flagWord_shiftLeft _ (show 8 < 32 by decide)]

theorem ctrlWord_reserved (s : State) : (ctrlWord s).extractLsb' 3 29 = 0 := by
  apply BitVec.eq_of_getLsbD_eq
  intro i hi
  simp [getLsbD_ctrlWord, show 3 + i ≠ 2 by omega, show 3 + i ≠ 1 by omega]

theorem statusWord_errcode (s : State) : (statusWord s).extractLsb' 4 4 = s.errcode := by
  apply BitVec.eq_of_getLsbD_eq
  intro i hi
  have hothers : 4 + i ≠ 0 ∧ 4 + i ≠ 1 ∧ 4 + i ≠ 2 ∧ 4 + i ≠ 3 ∧ 4 + i ≠ 8 := by omega
  simp [getLsbD_statusWord, hi, hothers]

theorem statusWord_reserved (s : State) : (statusWord s).extractLsb' 9 23 = 0 := by
  apply BitVec.eq_of_getLsbD_eq
  intro i hi
  have hflags : 9 + i ≠ 0 ∧ 9 + i ≠ 1 ∧ 9 + i ≠ 2 ∧ 9 + i ≠ 3 ∧ 9 + i ≠ 8 := by omega
  have herrcode : s.errcode.getLsbD (9 + i - 4) = false := s.errcode.getLsbD_of_ge _ (by omega)
  simp [getLsbD_statusWord, hflags, herrcode]

/-- STATUS.ERR is 1 exactly when an error is recorded (R30). -/
theorem errFlag_iff (s : State) : s.errFlag = true ↔ s.errcode ≠ 0 := bne_iff_ne

theorem exec_rdStatus (s : State) : exec .rdStatus s = readAs (statusWord s) s := rfl

theorem exec_rdCtrl (s : State) : exec .rdCtrl s = readAs (ctrlWord s) s := rfl

/-- Settles O52: the word read is `statusWord`; the corner cases are two clauses of the invariant. -/
theorem statusReadShowsEveryFlag : Obligations.StatusReadShowsEveryFlag := by
  refine ⟨fun d => decode_wordRead _ d rfl, fun s => ⟨statusWord s, ?_⟩⟩
  have hbusy : (statusWord s).getLsbD 0 = s.busy := by rw [getLsbD_statusWord]; simp
  have hdone : (statusWord s).getLsbD 1 = s.done := by rw [getLsbD_statusWord]; simp
  have hfound : (statusWord s).getLsbD 2 = s.found := by rw [getLsbD_statusWord]; simp
  have herr : (statusWord s).getLsbD 3 = s.errFlag := by rw [getLsbD_statusWord]; simp
  have hirq : (statusWord s).getLsbD 8 = s.irq := by rw [getLsbD_statusWord]; simp
  refine ⟨?_, hbusy, hdone, hfound, ?_, statusWord_errcode s, hirq, statusWord_reserved s, fun hinv => ?_⟩
  · rw [exec_rdStatus, readAs_eq]
  · rw [herr, errFlag_iff]
  · obtain ⟨-, -, -, -, hnotBoth, hsearching, -⟩ := hinv
    rw [hbusy, hdone, hfound]
    exact ⟨hnotBoth, hsearching⟩

/-! ### Writes to CTRL (R163, R164) -/

theorem decode_write_ctrl (d : Word) : decode (writeTxn 0x04 d) = .ok (decodeCtrl d) := decode_writeTxn _ d rfl

theorem decodeCtrl_of_srst {d : Word} (h : d.getLsbD 0 = true) : decodeCtrl d = .wrCtrlSrst := if_pos h

theorem decodeCtrl_of_set {d : Word} (h : d.getLsbD 0 = false) :
    decodeCtrl d = .wrCtrlSet (d.getLsbD 1) (d.getLsbD 2) :=
  if_neg (by rw [h]; decide)

theorem exec_wrCtrlSet (nm ie : Bool) (s : State) :
    exec (.wrCtrlSet nm ie) s = gatedWrite (fun s => { s with noMatch := nm, irqEn := ie }) s := rfl

theorem exec_wrCtrlSrst (s : State) : exec .wrCtrlSrst s = .next (answerWrite (resetBlock s)) := rfl

/-- `Reset()` as a record, with R221's values written out. -/
theorem resetBlock_eq (s : State) :
    resetBlock s = { s with
      noMatch := false, irqEn := false, busy := false, done := false, found := false, errcode := 0
      crcState := 0xFFFFFFFF, target := 0, prefixState := 0xFFFFFFFF, lanes := BitVec.ofNat 9 s.params.nlanesMax
      result := 0xFFFFFFFF, resultLane := 0
      laneFile :=
        List.replicate s.params.nlanesMax { active := false, cur := 0, limit := 0, found := false, val := 0 } } := rfl

/-- Settles O16: SRST performs `Reset()` with no gate before it. -/
theorem softResetFromAnyState : Obligations.SoftResetFromAnyState := by
  refine ⟨fun d hsrst => ?_, fun s => ?_⟩
  · rw [decode_write_ctrl, decodeCtrl_of_srst hsrst]
  · rw [exec_wrCtrlSrst, resetBlock_eq, answerWrite]

/-- Settles O51: the set is a gated load of the two stored bits of CTRL, and the word read back is `ctrlWord`. -/
theorem ctrlIsSetAndReadBack : Obligations.CtrlIsSetAndReadBack := by
  have haccept {nm ie : Bool} {s : State} (hidle : s.busy = false) :
      exec (.wrCtrlSet nm ie) s = .next { s with noMatch := nm, irqEn := ie, reply := .write .okay } := by
    rw [exec_wrCtrlSet, gatedWrite_of_idle _ s hidle, answerWrite]
  refine ⟨fun d hset => ?_, fun nm ie s hidle => ⟨haccept hidle, fun t ht => ?_⟩, fun nm ie s hbusy => ?_,
    fun d => decode_wordRead _ d rfl, fun s => ⟨ctrlWord s, ?_, ?_, ?_, ?_, ctrlWord_reserved s⟩⟩
  · rw [decode_write_ctrl, decodeCtrl_of_set hset]
  · rw [← Host.Outcome.next.inj ((haccept hidle).symm.trans ht), State.irq]
  · rw [exec_wrCtrlSet, gatedWrite_busy_eq _ hbusy]
  · rw [exec_rdCtrl, readAs_eq]
  · rw [getLsbD_ctrlWord]
    simp
  · rw [getLsbD_ctrlWord]
    simp
  · rw [getLsbD_ctrlWord]
    simp

/-! ### The constant reads (R160, R166, R169, R171) -/

theorem exec_rdId (s : State) : exec .rdId s = readAs 0x4F435243 s := rfl

theorem exec_rdCmd (s : State) : exec .rdCmd s = readAs 0 s := rfl

theorem exec_rdLaneMax (s : State) : exec .rdLaneMax s = readAs (BitVec.ofNat 32 s.params.nlanesMax) s := rfl

theorem exec_rdRsvd (off : Offset) (s : State) : exec (.rdRsvd off) s = readAs 0 s := rfl

/-- Settles O53: each row is a read of a word that the parameters alone determine. -/
theorem constantReadsAnswerTheirConstants : Obligations.ConstantReadsAnswerTheirConstants := by
  refine ⟨fun d => ?_, fun s off => ⟨?_, ?_, ?_, ?_⟩⟩
  · exact ⟨decode_wordRead _ d rfl, decode_wordRead _ d rfl, decode_wordRead _ d rfl, decode_wordRead _ d rfl,
      decode_wordRead _ d rfl⟩
  · rw [exec_rdId, readAs_eq]
  · rw [exec_rdCmd, readAs_eq]
  · rw [exec_rdLaneMax, readAs_eq]
  · rw [exec_rdRsvd, readAs_eq]

/-! ### Commands: CLEAR_ERR and the illegal words (R167, R173) -/

theorem exec_wrCmdClearErr (s : State) :
    exec .wrCmdClearErr s = .next { s with errcode := 0, reply := .write .okay } := rfl

/-- Settles O54: no gate stands before CLEAR_ERR, and ERR is computed from the ERRCODE it leaves. -/
theorem clearErrorClearsTheRecordedError : Obligations.ClearErrorClearsTheRecordedError := by
  refine ⟨decode_writeTxn _ _ rfl, fun s => ⟨exec_wrCmdClearErr s, fun t ht => ?_⟩⟩
  have herrcode : t.errcode = 0 := by rw [← Host.Outcome.next.inj ((exec_wrCmdClearErr s).symm.trans ht)]
  rw [Bool.eq_false_iff, ne_eq, errFlag_iff]
  exact not_not_intro herrcode

/-- A word that is none of the five commands of R76 decodes to none. -/
theorem decodeCommand_of_not_isCommandWord {d : Word} (h : ¬ isCommandWord d) :
    decodeCommand d = .error .illegalCommand := by
  have hlegal : isCommandWord 1 ∧ isCommandWord 2 ∧ isCommandWord 3 ∧ isCommandWord 4 ∧ isCommandWord 5 := by
    simp only [isCommandWord]
    decide
  obtain ⟨hinit, hcapture, hstart, hclear, hack⟩ := hlegal
  unfold decodeCommand
  split
  · exact absurd hinit h
  · exact absurd hcapture h
  · exact absurd hstart h
  · exact absurd hclear h
  · exact absurd hack h
  · rfl

/-- R173's three ways for a word to be no command. -/
theorem not_isCommandWord_of_illegal {d : Word}
    (h : d.extractLsb' 0 8 = 0 ∨ 6 ≤ (d.extractLsb' 0 8).toNat ∨ d.extractLsb' 8 24 ≠ 0) : ¬ isCommandWord d := by
  rintro ⟨hpos, hle, hmbz⟩
  rcases h with hzero | hlarge | hnonzero
  · rw [hzero] at hpos
    exact absurd hpos (by decide)
  · omega
  · exact hnonzero hmbz

/-- A write to CMD of a word that is no command performs Reject(ILLEGAL_CMD), whatever BUSY is (R173). -/
theorem step_of_illegalCommand {s : State} {d : Word} {rest : List Event}
    (ha : s.agenda = .txn (writeTxn 0x0C d) :: rest) (hd : ¬ isCommandWord d) :
    step s = .next (reject .illegalCmd { s with agenda := rest }) := by
  have hdecode : decode (writeTxn 0x0C d) = .error .illegalCommand :=
    (decode_writeTxn _ d rfl).trans (decodeCommand_of_not_isCommandWord hd)
  calc step s
      = runTxn (writeTxn 0x0C d) { s with agenda := rest } := step_of_txn ha
    _ = .next (reject .illegalCmd { s with agenda := rest }) := runTxn_of_decode_error hdecode _

/-- Settles O10: the descriptor decodes to `illegalCommand`, and no gate stands before its rejection. -/
theorem illegalCommandWordsAreRejected : Obligations.IllegalCommandWordsAreRejected := by
  intro s d rest ha hillegal
  exact step_of_illegalCommand ha (not_isCommandWord_of_illegal hillegal)

end Sys2Proof.Machine
end

section
/-! PROOFS. Rejected writes and answers (spec/60_exceptions.md R190 to R196): the rows before which the busy gate stands,
the priority of the causes, the answer of every transaction, and the life of ERRCODE. -/

namespace Sys2Proof.Machine

/-! ### The gated writes and the reads, each by its one meaning (R193) -/

/-- Each of the ten gated rows is a gated write of its own effect. -/
theorem exec_eq_gatedWrite {i : Instr} (hi : isGated i = true) (s : State) :
    ∃ f : State → State, exec i s = gatedWrite f s ∧ GatedEffect s i (f s) := by
  cases i with
  | wrCtrlSet nm ie => exact ⟨_, exec_wrCtrlSet nm ie s, .ctrl nm ie⟩
  | wrCmdInit => exact ⟨_, exec_wrCmdInit s, .init⟩
  | wrCmdCaptureTarget => exact ⟨_, exec_wrCmdCaptureTarget s, .capture⟩
  | wrCmdStart => exact ⟨_, exec_wrCmdStart s, .start⟩
  | wrCmdAck => exact ⟨_, exec_wrCmdAck s, .ack⟩
  | wrData8 b => exact ⟨_, exec_wrData8 b s, .data8 b⟩
  | wrData32 w => exact ⟨_, exec_wrData32 w s, .data32 w⟩
  | wrCrcState v => exact ⟨_, exec_wrCrcState v s, .crcState v⟩
  | wrTarget v => exact ⟨_, exec_wrTarget v s, .target v⟩
  | wrLanes n => exact ⟨_, exec_wrLanes n s, .lanes n⟩
  | _ => cases hi

theorem exec_of_isGated_busy {i : Instr} {s : State} (hi : isGated i = true) (hbusy : s.busy = true) :
    exec i s = .next (reject .busy s) := by
  obtain ⟨f, hexec, -⟩ := exec_eq_gatedWrite hi s
  rw [hexec, gatedWrite_of_busy f s hbusy]

theorem exec_of_isGated_idle {i : Instr} {s : State} (hi : isGated i = true) (hidle : s.busy = false) :
    ∃ u, exec i s = .next (answerWrite u) ∧ GatedEffect s i u := by
  obtain ⟨f, hexec, heffect⟩ := exec_eq_gatedWrite hi s
  exact ⟨f s, hexec.trans (gatedWrite_of_idle f s hidle), heffect⟩

/-- No gated write touches ERRCODE when it is accepted. -/
theorem GatedEffect.errcode_eq {s u : State} {i : Instr} (h : GatedEffect s i u) : u.errcode = s.errcode := by
  cases h <;> rfl

/-- Nor does it touch the events that are laid out. -/
theorem GatedEffect.agenda_eq {s u : State} {i : Instr} (h : GatedEffect s i u) : u.agenda = s.agenda := by
  cases h <;> rfl

/-- Every read row answers one word. -/
theorem exec_eq_readAs {i : Instr} (hi : isRead i = true) (s : State) : ∃ v, exec i s = readAs v s := by
  cases i with
  | rdId | rdCtrl | rdStatus | rdCmd | rdData8 | rdData32 | rdCrcState | rdCrcResult | rdTarget | rdPrefix | rdLanes
  | rdResult | rdResultLane | rdLaneMax | rdRsvd => exact ⟨_, rfl⟩
  | _ => cases hi

/-- Settles O50: a gated row is a `gatedWrite`, and before the two other writes and the reads no gate stands. -/
theorem busyGateRefusesExactlyTheGatedWrites : Obligations.BusyGateRefusesExactlyTheGatedWrites := by
  refine ⟨fun i s hi hbusy => exec_of_isGated_busy hi hbusy, fun i s hi hidle => ?_,
    fun s => ⟨_, exec_wrCtrlSrst s, answerWrite_reply _⟩, fun s => ⟨_, exec_wrCmdClearErr s, rfl⟩, fun i s hi => ?_⟩
  · obtain ⟨u, hexec, heffect⟩ := exec_of_isGated_idle hi hidle
    exact ⟨answerWrite u, hexec, answerWrite_reply u, heffect.errcode_eq⟩
  · obtain ⟨v, hexec⟩ := exec_eq_readAs hi s
    exact ⟨v, hexec.trans (readAs_eq v s)⟩

/-! ### What a well-formed write decodes to (R75, R76) -/

/-- A well-formed write is the whole-word write of its offset and data (R56, R70). -/
theorem eq_writeTxn_of_wellFormed {t : Txn} (hw : txnWrite t = true) (hwf : accessWellFormed t = true) :
    t = writeTxn (txnOff t) (txnData t) := by
  have hboth : txnSize t = wordSize ∧ (txnOff t).extractLsb' 0 2 = 0#2 := by simpa [accessWellFormed] using hwf
  obtain ⟨hsize, -⟩ := hboth
  rw [writeTxn, ← hw, ← hsize, mkTxn_fields]

theorem decode_of_wellFormedWrite {t : Txn} (hw : txnWrite t = true) (hwf : accessWellFormed t = true) :
    decode t = decodeWrite (txnOff t) (txnData t) := by
  simp [decode, hw, hwf]

/-- The rows of the read-only offsets have one meaning. -/
theorem decodeWrite_of_readOnlyOffset {off : Offset} (hro : readOnlyOffset off = true) (d : Word) :
    ∃ i, decodeWrite off d = .ok i ∧ ∀ s, exec i s = readOnlyWrite s := by
  have hoffset : off ∈ [0x00#6, 0x08#6, 0x1C#6, 0x24#6, 0x2C#6, 0x30#6, 0x34#6, 0x38#6, 0x3C#6] :=
    List.contains_iff_mem.mp hro
  simp only [List.mem_cons, List.not_mem_nil, or_false] at hoffset
  rcases hoffset with rfl | rfl | rfl | rfl | rfl | rfl | rfl | rfl | rfl <;> exact ⟨_, rfl, fun _ => rfl⟩

/-- The word-aligned offsets that a write can change: CTRL, CMD and the registers of the engine and the search. -/
theorem writable_offset_cases : ∀ {off : Offset}, off.extractLsb' 0 2 = 0#2 → readOnlyOffset off = false →
    off = 0x04 ∨ off = 0x0C ∨ off ∈ [0x10#6, 0x14#6, 0x18#6, 0x20#6, 0x28#6] := by
  decide

/-- R76's command words are five. -/
theorem eq_of_isCommandWord {d : Word} (h : isCommandWord d) : d = 1 ∨ d = 2 ∨ d = 3 ∨ d = 4 ∨ d = 5 := by
  obtain ⟨hpos, hle, hmbz⟩ := h
  have hcode : (d.extractLsb' 0 8).toNat = d.toNat % 2 ^ 8 := BitVec.extractLsb'_toNat 0 8 d
  have hrest : d.toNat / 2 ^ 8 % 2 ^ 24 = 0 := by
    rw [← Nat.shiftRight_eq_div_pow, ← BitVec.extractLsb'_toNat, hmbz, BitVec.toNat_zero]
  bv_omega

theorem decodeWrite_ctrl (d : Word) : decodeWrite 0x04 d = .ok (decodeCtrl d) := rfl

theorem decodeWrite_cmd (d : Word) : decodeWrite 0x0C d = decodeCommand d := rfl

/-- Every command but CLEAR_ERR is gated (R193). -/
theorem decodeCommand_isGated {d : Word} (hd : isCommandWord d) (hclear : d ≠ 4) :
    ∃ i, decodeCommand d = .ok i ∧ isGated i = true := by
  rcases eq_of_isCommandWord hd with rfl | rfl | rfl | rfl | rfl
  · exact ⟨.wrCmdInit, rfl, rfl⟩
  · exact ⟨.wrCmdCaptureTarget, rfl, rfl⟩
  · exact ⟨.wrCmdStart, rfl, rfl⟩
  · exact absurd rfl hclear
  · exact ⟨.wrCmdAck, rfl, rfl⟩

/-- The data registers' rows are gated whatever the data. -/
theorem decodeWrite_isGated {off : Offset} (hoff : off ∈ [0x10#6, 0x14#6, 0x18#6, 0x20#6, 0x28#6]) (d : Word) :
    ∃ i, decodeWrite off d = .ok i ∧ isGated i = true := by
  simp only [List.mem_cons, List.not_mem_nil, or_false] at hoff
  rcases hoff with rfl | rfl | rfl | rfl | rfl <;> exact ⟨_, rfl, rfl⟩

/-- A well-formed write that no other check rejects and that is neither SRST nor CLEAR_ERR meets the busy gate (R193). -/
theorem decode_isGated {t : Txn} (hw : txnWrite t = true) (hwf : accessWellFormed t = true)
    (hro : readOnlyOffset (txnOff t) = false) (hcmd : txnOff t = 0x0C → isCommandWord (txnData t) ∧ txnData t ≠ 4)
    (hctrl : txnOff t = 0x04 → (txnData t).getLsbD 0 = false) : ∃ i, decode t = .ok i ∧ isGated i = true := by
  rw [decode_of_wellFormedWrite hw hwf]
  rcases writable_offset_cases (aligned_of_accessWellFormed hwf) hro with hoff | hoff | hoff
  · rw [hoff, decodeWrite_ctrl, decodeCtrl_of_set (hctrl hoff)]
    exact ⟨_, rfl, rfl⟩
  · obtain ⟨hword, hclear⟩ := hcmd hoff
    rw [hoff, decodeWrite_cmd]
    exact decodeCommand_isGated hword hclear
  · exact decodeWrite_isGated hoff _

theorem decode_of_srst {t : Txn} (hw : txnWrite t = true) (hwf : accessWellFormed t = true) (hoff : txnOff t = 0x04)
    (hbit : (txnData t).getLsbD 0 = true) : decode t = .ok .wrCtrlSrst := by
  rw [decode_of_wellFormedWrite hw hwf, hoff, decodeWrite_ctrl, decodeCtrl_of_srst hbit]

theorem decode_of_clearErr {t : Txn} (hw : txnWrite t = true) (hwf : accessWellFormed t = true) (hoff : txnOff t = 0x0C)
    (hword : txnData t = 4) : decode t = .ok .wrCmdClearErr := by
  rw [decode_of_wellFormedWrite hw hwf, hoff, decodeWrite_cmd, hword]
  rfl

/-! ### One step, by the highest cause that the write meets (R191, R194) -/

section oneStep
variable {s : State} {t : Txn} {rest : List Event}

/-- A step whose oldest event is an operation's transaction performs the operation. -/
theorem step_of_decode {i : Instr} (ha : s.agenda = .txn t :: rest) (hd : decode t = .ok i) :
    step s = exec i { s with agenda := rest } :=
  (step_of_txn ha).trans (runTxn_of_decode_ok hd _)

theorem step_of_badWrite (ha : s.agenda = .txn t :: rest) (hw : txnWrite t = true) (hwf : accessWellFormed t = false) :
    step s = .next (reject .badAccess { s with agenda := rest }) :=
  (step_of_txn ha).trans (runTxn_of_decode_error (decode_of_badWrite hw hwf) _)

theorem step_of_readOnlyOffset (ha : s.agenda = .txn t :: rest) (hw : txnWrite t = true)
    (hwf : accessWellFormed t = true) (hro : readOnlyOffset (txnOff t) = true) :
    step s = .next (reject .roWrite { s with agenda := rest }) := by
  obtain ⟨i, hrow, hexec⟩ := decodeWrite_of_readOnlyOffset hro (txnData t)
  exact (step_of_decode ha ((decode_of_wellFormedWrite hw hwf).trans hrow)).trans (hexec _)

theorem step_of_noCommand (ha : s.agenda = .txn t :: rest) (hw : txnWrite t = true) (hwf : accessWellFormed t = true)
    (hoff : txnOff t = 0x0C) (hword : ¬ isCommandWord (txnData t)) :
    step s = .next (reject .illegalCmd { s with agenda := rest }) := by
  rw [eq_writeTxn_of_wellFormed hw hwf, hoff] at ha
  exact step_of_illegalCommand ha hword

theorem step_of_gated_busy {i : Instr} (ha : s.agenda = .txn t :: rest) (hd : decode t = .ok i)
    (hi : isGated i = true) (hbusy : s.busy = true) : step s = .next (reject .busy { s with agenda := rest }) :=
  (step_of_decode ha hd).trans (exec_of_isGated_busy hi hbusy)

theorem step_of_gated_idle {i : Instr} (ha : s.agenda = .txn t :: rest) (hd : decode t = .ok i)
    (hi : isGated i = true) (hidle : s.busy = false) :
    ∃ u, step s = .next (answerWrite u) ∧ GatedEffect { s with agenda := rest } i u := by
  obtain ⟨u, hexec, heffect⟩ := exec_of_isGated_idle (s := { s with agenda := rest }) hi hidle
  exact ⟨u, (step_of_decode ha hd).trans hexec, heffect⟩

theorem step_of_srst (ha : s.agenda = .txn t :: rest) (hd : decode t = .ok .wrCtrlSrst) :
    step s = .next (answerWrite (resetBlock { s with agenda := rest })) := step_of_decode ha hd

theorem step_of_clearErr (ha : s.agenda = .txn t :: rest) (hd : decode t = .ok .wrCmdClearErr) :
    step s = .next (answerWrite { s with agenda := rest, errcode := 0 }) := step_of_decode ha hd

end oneStep

/-- Settles O11: each clause is the step of one cause, and the hypotheses rule out the causes above it. -/
theorem rejectedWritesFollowThePriority : Obligations.RejectedWritesFollowThePriority := by
  intro s t rest ha hw
  refine ⟨step_of_badWrite ha hw, step_of_readOnlyOffset ha hw, step_of_noCommand ha hw,
    fun hwf hro hcmd hctrl hbusy => ?_⟩
  obtain ⟨i, hd, hi⟩ := decode_isGated hw hwf hro hcmd hctrl
  exact step_of_gated_busy ha hd hi hbusy

/-! ### The answer of every transaction (R195) -/

/-- The two writes that the busy gate never refuses: SRST and CLEAR_ERR (R193). -/
def UngatedWrite (t : Txn) : Prop :=
  (txnOff t = 0x04 ∧ (txnData t).getLsbD 0 = true) ∨ (txnOff t = 0x0C ∧ txnData t = 4)

/-- R192's causes together: the write is rejected. -/
def RejectedWrite (s : State) (t : Txn) : Prop :=
  accessWellFormed t = false ∨ readOnlyOffset (txnOff t) = true ∨ (txnOff t = 0x0C ∧ ¬ isCommandWord (txnData t))
    ∨ (s.busy = true ∧ ¬ UngatedWrite t)

/-- The gate's hypotheses, for a write that is neither SRST nor CLEAR_ERR. -/
theorem decode_isGated_of_not_ungated {t : Txn} (hw : txnWrite t = true) (hwf : accessWellFormed t = true)
    (hro : readOnlyOffset (txnOff t) = false) (hcmd : txnOff t = 0x0C → isCommandWord (txnData t))
    (hgated : ¬ UngatedWrite t) : ∃ i, decode t = .ok i ∧ isGated i = true := by
  obtain ⟨hsrst, hclear⟩ := not_or.mp hgated
  refine decode_isGated hw hwf hro (fun hoff => ⟨hcmd hoff, fun hword => hclear ⟨hoff, hword⟩⟩) fun hoff => ?_
  exact Bool.eq_false_iff.mpr fun hbit => hsrst ⟨hoff, hbit⟩

section answer
variable {s : State} {t : Txn} {rest : List Event}

/-- A rejected write is rejected with one cause: the causes are tried in R194's order. -/
theorem step_of_rejectedWrite (ha : s.agenda = .txn t :: rest) (hw : txnWrite t = true) (hrej : RejectedWrite s t) :
    ∃ c, step s = .next (reject c { s with agenda := rest }) := by
  cases hwf : accessWellFormed t with
  | false => exact ⟨_, step_of_badWrite ha hw hwf⟩
  | true =>
    cases hro : readOnlyOffset (txnOff t) with
    | true => exact ⟨_, step_of_readOnlyOffset ha hw hwf hro⟩
    | false =>
      by_cases hillegal : txnOff t = 0x0C ∧ ¬ isCommandWord (txnData t)
      · obtain ⟨hoff, hword⟩ := hillegal
        exact ⟨_, step_of_noCommand ha hw hwf hoff hword⟩
      · obtain ⟨hbusy, hgated⟩ : s.busy = true ∧ ¬ UngatedWrite t := by
          rcases hrej with hbad | hreadOnly | hno | hgate
          · exact absurd hwf (Bool.eq_false_iff.mp hbad)
          · exact absurd hreadOnly (Bool.eq_false_iff.mp hro)
          · exact absurd hno hillegal
          · exact hgate
        have hcmd (hoff : txnOff t = 0x0C) : isCommandWord (txnData t) := by
          by_contra hword
          exact hillegal ⟨hoff, hword⟩
        obtain ⟨i, hd, hi⟩ := decode_isGated_of_not_ungated hw hwf hro hcmd hgated
        exact ⟨_, step_of_gated_busy ha hd hi hbusy⟩

/-- Every other write is SRST, CLEAR_ERR, or a gated write of an idle block. -/
theorem step_of_acceptedWrite (ha : s.agenda = .txn t :: rest) (hw : txnWrite t = true)
    (hacc : ¬ RejectedWrite s t) : ∃ u, step s = .next (answerWrite u) ∧ u.agenda = rest := by
  simp only [RejectedWrite, not_or, not_and, not_not, Bool.not_eq_false, Bool.not_eq_true] at hacc
  obtain ⟨hwf, hro, hcmd, hgate⟩ := hacc
  by_cases hungated : UngatedWrite t
  · rcases hungated with ⟨hoff, hbit⟩ | ⟨hoff, hword⟩
    · exact ⟨_, step_of_srst ha (decode_of_srst hw hwf hoff hbit), resetBlock_agenda _⟩
    · exact ⟨_, step_of_clearErr ha (decode_of_clearErr hw hwf hoff hword), rfl⟩
  · obtain ⟨i, hd, hi⟩ := decode_isGated_of_not_ungated hw hwf hro hcmd hungated
    obtain ⟨u, hstep, heffect⟩ := step_of_gated_idle ha hd hi (Bool.eq_false_iff.mpr (mt hgate hungated))
    exact ⟨u, hstep, heffect.agenda_eq⟩

theorem step_of_badRead (ha : s.agenda = .txn t :: rest) (hw : txnWrite t = false) (hwf : accessWellFormed t = false) :
    step s = .next (answerBadRead { s with agenda := rest }) :=
  (step_of_txn ha).trans (runTxn_of_decode_error (decode_of_badRead hw hwf) _)

end answer

/-- Settles O12: a read is well-formed or not, and a write is rejected or not. -/
theorem everyTransactionIsAnswered : Obligations.EveryTransactionIsAnswered := by
  intro s t rest ha
  cases hw : txnWrite t with
  | false =>
    cases hwf : accessWellFormed t with
    | false => exact ⟨_, step_of_badRead ha hw hwf, by simp⟩
    | true => exact ⟨_, step_of_wellFormedRead ha hw hwf, by simp⟩
  | true =>
    by_cases hrej : RejectedWrite s t
    · obtain ⟨c, hstep⟩ := step_of_rejectedWrite ha hw hrej
      refine ⟨_, hstep, reject_agenda _ c, nofun, nofun, fun _ _ => reject_reply _ c,
        fun _ hwf hro hcmd hgate => absurd hrej ?_⟩
      rintro (hbad | hreadOnly | ⟨hoff, hword⟩ | ⟨hbusy, hgated⟩)
      · exact absurd hwf (Bool.eq_false_iff.mp hbad)
      · exact absurd hreadOnly (Bool.eq_false_iff.mp hro)
      · exact hword (hcmd hoff)
      · exact hgated (hgate.resolve_left (ne_false_of_eq_true hbusy))
    · obtain ⟨u, hstep, hagenda⟩ := step_of_acceptedWrite ha hw hrej
      refine ⟨_, hstep, hagenda, nofun, nofun, fun _ hcause => absurd ?_ hrej, fun _ _ _ _ _ => answerWrite_reply u⟩
      simpa only [RejectedWrite, UngatedWrite, not_or] using hcause

/-! ### The life of ERRCODE (R196) -/

@[simp] theorem laneStep_errcode (i : Nat) (s : State) : (laneStep i s).errcode = s.errcode := by
  rcases laneStep_cases i s with ⟨-, h⟩ | ⟨l, -, -, -, h⟩ <;> rw [h]

@[simp] theorem completionStep_errcode (s : State) : (completionStep s).errcode = s.errcode := by
  rcases completionStep_cases s with ⟨-, h⟩ | ⟨-, h⟩ <;> rw [h]
  exact completeSearch_errcode s

@[simp] theorem unitTurn_errcode (s : State) : (unitTurn s).errcode = s.errcode := by
  rcases unitTurn_cases s with ⟨i, -, h⟩ | ⟨-, h⟩ <;> rw [h]
  · exact laneStep_errcode i s
  · exact completionStep_errcode s

/-- A rejection changes ERRCODE only from 0, to the code of its cause (R191, R192). -/
theorem reject_errcode_changed {c : RejectCode} {s : State} (h : (reject c s).errcode ≠ s.errcode) :
    s.errcode = 0 ∧ 1 ≤ (reject c s).errcode.toNat ∧ (reject c s).errcode.toNat ≤ 4 := by
  by_cases hzero : s.errcode = 0#4
  · rw [reject_errcode, if_pos hzero]
    exact ⟨hzero, rejectCode_range c⟩
  · rw [reject_errcode, if_neg hzero] at h
    exact absurd rfl h

/-- All an operation can do to ERRCODE: record the cause of its rejection, or clear it. -/
theorem Effect.errcode_changed {s t : State} {i : Instr} (h : Effect s i t) (hne : t.errcode ≠ s.errcode) :
    (∃ c, t = reject c s) ∨ (t.errcode = 0 ∧ (i = .wrCtrlSrst ∨ i = .wrCmdClearErr)) := by
  cases h with
  | read v => exact absurd (answerRead_errcode s _) hne
  | refusedBusy => exact .inl ⟨_, rfl⟩
  | refusedReadOnly => exact .inl ⟨_, rfl⟩
  | accepted _ _ _ hu => exact absurd hu.errcode_eq hne
  | softReset => exact .inr ⟨rfl, .inl rfl⟩
  | clearErr => exact .inr ⟨rfl, .inr rfl⟩

/-- Hardware reset as a step (R220). -/
theorem step_of_rst {s : State} {rest : List Event} (ha : s.agenda = .rst :: rest) :
    step s = .next (resetBlock { s with agenda := rest }) := by
  simp [step, ha]

/-- Settles O55: of a step's six forms only a transaction can record an error, and only reset, SRST and CLEAR_ERR clear
it. -/
theorem firstErrorIsKeptUntilCleared : Obligations.FirstErrorIsKeptUntilCleared := by
  constructor
  · intro s t hstep hne
    have hrejected {c : RejectCode} {rest : List Event} (ht : t = reject c { s with agenda := rest }) :
        s.errcode = 0 ∧ 1 ≤ t.errcode.toNat ∧ t.errcode.toNat ≤ 4 ∧ t.reply = .write .error := by
      subst ht
      obtain ⟨hzero, hpos, hle⟩ := reject_errcode_changed hne
      exact ⟨hzero, hpos, hle, reject_reply _ c⟩
    rcases step_cases s t hstep with ⟨-, rfl⟩ | ⟨d, rest, i, ha, hd, heffect⟩ | ⟨d, rest, e, ha, hd, rfl⟩
      | ⟨rest, ha, rfl⟩ | ⟨i, rest, ha, rfl⟩ | ⟨rest, ha, rfl⟩
    · exact absurd (unitTurn_errcode s) hne
    · rcases heffect.errcode_changed hne with ⟨c, ht⟩ | ⟨hzero, hi⟩
      · exact .inl (hrejected ht)
      · refine .inr ⟨hzero, .inr ⟨d, rest, ha, ?_⟩⟩
        rcases hi with rfl | rfl
        · exact .inl hd
        · exact .inr hd
    · rcases answerUndecoded_cases e { s with agenda := rest } with hbad | ⟨c, hrej⟩
      · exact absurd (congrArg State.errcode hbad) hne
      · exact .inl (hrejected hrej)
    · exact .inr ⟨resetBlock_errcode _, .inl ⟨rest, ha⟩⟩
    · exact absurd (laneStep_errcode i _) hne
    · exact absurd (completionStep_errcode _) hne
  · rintro s d rest (ha | ⟨ha, hd | hd⟩)
    · exact ⟨_, step_of_rst ha, resetBlock_errcode _⟩
    · exact ⟨_, step_of_srst ha hd, rfl⟩
    · exact ⟨_, step_of_clearErr ha hd, rfl⟩

end Sys2Proof.Machine
end

section
/-! PROOFS. Reset (spec/70_reset_and_hazards.md R220, R221): what the registers read once `Reset()` has happened, and the
hardware reset as a step. -/

namespace Sys2Proof.Machine

/-! ### The window after `Reset()` (R221) -/

section afterReset
variable (s : State)

/-- LANES starts at NLANES_MAX, which its nine bits hold. -/
theorem resetBlock_lanes_toNat : (resetBlock s).lanes.toNat = s.params.nlanesMax := by
  have hfits : s.params.nlanesMax < 2 ^ 9 := (nlanesMax_le s.params).trans_lt (by decide)
  rw [resetBlock_lanes, BitVec.toNat_ofNat, Nat.mod_eq_of_lt hfits]

theorem resetBlock_laneFile_length : (resetBlock s).laneFile.length = s.params.nlanesMax := by
  rw [resetBlock_laneFile, List.length_replicate]

theorem eq_reset_of_mem_resetBlock_laneFile {l : Lane} (hl : l ∈ (resetBlock s).laneFile) : l = Lane.reset := by
  rw [resetBlock_laneFile] at hl
  exact List.eq_of_mem_replicate hl

theorem resetBlock_irq : (resetBlock s).irq = false := by
  rw [State.irq, resetBlock_done, Bool.false_and]

theorem resetBlock_errFlag : (resetBlock s).errFlag = false := by
  rw [State.errFlag, resetBlock_errcode, bne_self_eq_false]

theorem ctrlWord_resetBlock : ctrlWord (resetBlock s) = 0 := by
  simp [ctrlWord, flagWord]

theorem statusWord_resetBlock : statusWord (resetBlock s) = 0 := by
  simp [statusWord, flagWord, resetBlock_errFlag, resetBlock_irq]

/-- The checksum of no byte at all: CRC_STATE is all-ones, and `Fin` complements it (R96). -/
theorem windowWord_crcResult_resetBlock : windowWord (resetBlock s) 0x1C = 0 := by
  have hresult : windowWord (resetBlock s) 0x1C = crcFin (resetBlock s).crcState := rfl
  rw [hresult, resetBlock_crcState]
  decide

end afterReset

/-- ID is a constant (R22). -/
theorem windowWord_id (s : State) : windowWord s 0x00 = 0x4F435243 := rfl

/-- LANE_MAX shows a parameter, which no reset changes (R45). -/
theorem windowWord_laneMax_congr {s t : State} (h : t.params = s.params) : windowWord t 0x34 = windowWord s 0x34 :=
  congrArg (fun p : Params => BitVec.ofNat 32 p.nlanesMax) h

/-! ### The reset as a step (R220) -/

/-- Settles O15: the step is `Reset()` on the block with the event taken off, which keeps the model's own fields. -/
theorem hardwareResetFromAnyState : Obligations.HardwareResetFromAnyState := by
  intro s rest ha
  exact ⟨resetBlock { s with agenda := rest }, step_of_rst ha,
    resetBlock_noMatch _, resetBlock_irqEn _, resetBlock_busy _, resetBlock_done _, resetBlock_found _,
    resetBlock_errcode _, resetBlock_crcState _, resetBlock_target _, resetBlock_prefixState _,
    resetBlock_lanes_toNat _, resetBlock_result _, resetBlock_resultLane _,
    resetBlock_laneFile_length _, fun _ hl => eq_reset_of_mem_resetBlock_laneFile _ hl,
    windowWord_crcResult_resetBlock _, statusWord_resetBlock _, ctrlWord_resetBlock _, resetBlock_irq _,
    windowWord_id _, resetBlock_params _, windowWord_laneMax_congr (resetBlock_params _),
    resetBlock_agenda _, resetBlock_reply _, resetBlock_tick _⟩

end Sys2Proof.Machine
end

section
/-! PROOFS. The encoding (spec/30_encoding.md R70 to R84): decode after encode, the rows of the opcode table, the
descriptors that match none, and the host accesses that become descriptors. -/

namespace Sys2Proof.Machine

/-! ### Decode after encode (R78, R79) -/

/-- The operand of WR_CTRL_SET stands in bits 1 and 2 of DATA, and bit 0 is clear (R78). -/
theorem decodeCtrl_ctrlOperand : ∀ nm ie : Bool, decodeCtrl (ctrlOperand nm ie) = .wrCtrlSet nm ie := by
  decide

/-- Settles O1: each row's offset and operand select the row and give the operand back. -/
theorem decodeOfEncodeIsTheOperation : Obligations.DecodeOfEncodeIsTheOperation := by
  intro i hwf
  cases i with
  | rdId | rdCtrl | rdStatus | rdCmd | rdData8 | rdData32 | rdCrcState | rdCrcResult | rdTarget | rdPrefix | rdLanes
  | rdResult | rdResultLane | rdLaneMax => exact decode_wordRead _ _ rfl
  | rdRsvd off =>
    rcases Laws.EncodingRow.reservedSlot_cases hwf with rfl | rfl
    · exact decode_wordRead _ _ rfl
    · exact decode_wordRead _ _ rfl
  | wrId | wrCtrlSrst | wrStatus | wrCmdInit | wrCmdCaptureTarget | wrCmdStart | wrCmdClearErr | wrCmdAck | wrCrcState
  | wrCrcResult | wrTarget | wrPrefix | wrLanes | wrResult | wrResultLane | wrLaneMax => exact decode_writeTxn _ _ rfl
  | wrCtrlSet nm ie => rw [encode, decode_write_ctrl, decodeCtrl_ctrlOperand]
  | wrData8 b => exact decode_encode_of_feedsBytes (.inl ⟨b, rfl⟩)
  | wrData32 w => exact decode_encode_of_feedsBytes (.inr ⟨w, rfl⟩)
  | wrRsvd off =>
    rcases Laws.EncodingRow.reservedSlot_cases hwf with rfl | rfl
    · exact decode_writeTxn _ _ rfl
    · exact decode_writeTxn _ _ rfl

/-- Settles O3: DATA is no argument of the decoder's read rows, and a bad access is answered before any row. -/
theorem readDecodingIgnoresData : Obligations.ReadDecodingIgnoresData := by
  intro sz off d d'
  cases hwf : sz == wordSize && off.extractLsb' 0 2 == 0#2 with
  | false =>
    rw [decode_of_badRead (txnWrite_mkTxn ..) ((accessWellFormed_mkTxn ..).trans hwf),
      decode_of_badRead (txnWrite_mkTxn ..) ((accessWellFormed_mkTxn ..).trans hwf)]
  | true =>
    rw [decode_of_wellFormedRead (txnWrite_mkTxn ..) ((accessWellFormed_mkTxn ..).trans hwf), txnOff_mkTxn,
      decode_of_wellFormedRead (txnWrite_mkTxn ..) ((accessWellFormed_mkTxn ..).trans hwf), txnOff_mkTxn]

/-- Settles O5, by the decoder's value at each of the eleven descriptors. -/
theorem decodedWordsOfTheSpec : Obligations.DecodedWordsOfTheSpec :=
  ⟨rfl, rfl, rfl, rfl, rfl, rfl, rfl, rfl, rfl, rfl, rfl⟩

/-! ### The rows of the opcode table (R84) -/

theorem mkTxn_inj {w w' : Bool} {sz sz' : BitVec 2} {off off' : Offset} {d d' : Word} :
    mkTxn w sz off d = mkTxn w' sz' off' d' ↔ w = w' ∧ sz = sz' ∧ off = off' ∧ d = d' := by
  constructor
  · intro h
    refine ⟨?_, ?_, ?_, ?_⟩
    · simpa using congrArg txnWrite h
    · simpa using congrArg txnSize h
    · simpa using congrArg txnOff h
    · simpa using congrArg txnData h
  · rintro ⟨rfl, rfl, rfl, rfl⟩
    rfl

/-- A row looks at each field of the descriptor by itself. -/
theorem selectedBy_iff (r : Row) (t : Txn) :
    r.selectedBy t = true
      ↔ (txnWrite t && txnWrite r.mask) = txnWrite r.bits ∧ txnSize t &&& txnSize r.mask = txnSize r.bits
        ∧ txnOff t &&& txnOff r.mask = txnOff r.bits ∧ txnData t &&& txnData r.mask = txnData r.bits := by
  rw [← mkTxn_inj, ← mkTxn_and, mkTxn_fields, mkTxn_fields, mkTxn_fields, Row.selectedBy, beq_iff_eq]

/-- Every row asks for its direction, for the size of a whole word and for a word-aligned offset. -/
theorem rowOf_fields (i : Instr) :
    txnWrite (rowOf i).mask = true ∧ txnSize (rowOf i).mask = 3#2 ∧ txnSize (rowOf i).bits = wordSize
      ∧ (txnOff (rowOf i).mask).extractLsb' 0 2 = 3#2 ∧ (txnOff (rowOf i).bits).extractLsb' 0 2 = 0#2
      ∧ txnWrite (rowOf i).bits = !isRead i := by
  cases i <;> simp only [rowOf, isRead] <;> decide

theorem txnWrite_of_selectedBy {i : Instr} {t : Txn} (h : (rowOf i).selectedBy t = true) :
    txnWrite t = txnWrite (rowOf i).bits := by
  obtain ⟨hmask, -⟩ := rowOf_fields i
  obtain ⟨hw, -⟩ := (selectedBy_iff _ t).mp h
  rwa [hmask, Bool.and_true] at hw

/-- A row selects well-formed accesses only (R56). -/
theorem accessWellFormed_of_selectedBy {i : Instr} {t : Txn} (h : (rowOf i).selectedBy t = true) :
    accessWellFormed t = true := by
  obtain ⟨-, hszMask, hszBits, hoffMask, hoffBits, -⟩ := rowOf_fields i
  obtain ⟨-, hsz, hoff, -⟩ := (selectedBy_iff _ t).mp h
  have hsize : txnSize t = wordSize := by
    rw [hszMask, hszBits] at hsz
    exact BitVec.and_allOnes.symm.trans hsz
  have haligned : (txnOff t).extractLsb' 0 2 = 0#2 := by
    have hlow := congrArg (BitVec.extractLsb' 0 2) hoff
    rw [BitVec.extractLsb'_and, hoffMask, hoffBits] at hlow
    exact BitVec.and_allOnes.symm.trans hlow
  simp [accessWellFormed, hsize, haligned]

/-- A reserved row leaves bit 2 of the offset free, which names both reserved slots (R80). -/
theorem reserved_of_masked : ∀ {off : Offset}, off &&& 0x3B = 0x38 → off = 0x38 ∨ off = 0x3C := by
  decide

/-- The row's direction picks the half of the decoder that decodes what it selects. -/
theorem decode_of_selectedBy_read {i : Instr} {t : Txn} (h : (rowOf i).selectedBy t = true) (hi : isRead i = true) :
    decode t = decodeRead (txnOff t) := by
  obtain ⟨-, -, -, -, -, hread⟩ := rowOf_fields i
  refine decode_of_wellFormedRead ?_ (accessWellFormed_of_selectedBy h)
  rw [txnWrite_of_selectedBy h, hread, hi, Bool.not_true]

theorem decode_of_selectedBy_write {i : Instr} {t : Txn} (h : (rowOf i).selectedBy t = true) (hi : isRead i = false) :
    decode t = decodeWrite (txnOff t) (txnData t) := by
  obtain ⟨-, -, -, -, -, hread⟩ := rowOf_fields i
  refine decode_of_wellFormedWrite ?_ (accessWellFormed_of_selectedBy h)
  rw [txnWrite_of_selectedBy h, hread, hi, Bool.not_false]

/-- A row that looks at the whole offset selects the descriptors with its own. -/
theorem txnOff_of_selectedBy {i : Instr} {t mask bits : Txn} (h : (rowOf i).selectedBy t = true)
    (hrow : rowOf i = ⟨mask, bits⟩) (hmask : txnOff mask = 0x3F) : txnOff t = txnOff bits := by
  obtain ⟨-, -, hoff, -⟩ := (selectedBy_iff _ t).mp h
  rw [hrow, hmask] at hoff
  exact BitVec.and_allOnes.symm.trans hoff

theorem txnOff_of_selectedBy_reserved {i : Instr} {t mask bits : Txn} (h : (rowOf i).selectedBy t = true)
    (hrow : rowOf i = ⟨mask, bits⟩) (hmask : txnOff mask = 0x3B) (hbits : txnOff bits = 0x38) :
    txnOff t = 0x38 ∨ txnOff t = 0x3C := by
  obtain ⟨-, -, hoff, -⟩ := (selectedBy_iff _ t).mp h
  rw [hrow, hmask, hbits] at hoff
  exact reserved_of_masked hoff

theorem txnData_of_selectedBy {i : Instr} {t mask bits : Txn} (h : (rowOf i).selectedBy t = true)
    (hrow : rowOf i = ⟨mask, bits⟩) : txnData t &&& txnData mask = txnData bits := by
  obtain ⟨-, -, -, hdata⟩ := (selectedBy_iff _ t).mp h
  rwa [hrow] at hdata

theorem getLsbD_zero_of_and_one {d : Word} {b : Bool} (h : d &&& 1#32 = (BitVec.ofBool b).setWidth 32) :
    d.getLsbD 0 = b := by
  simpa using congrArg (BitVec.getLsbD · 0) h

/-- A descriptor that a row selects decodes to an operation of that row. -/
theorem decode_of_selectedBy {i : Instr} {t : Txn} (h : (rowOf i).selectedBy t = true) :
    ∃ j, decode t = .ok j ∧ rowOf j = rowOf i := by
  cases i with
  | rdId | rdCtrl | rdStatus | rdCmd | rdData8 | rdData32 | rdCrcState | rdCrcResult | rdTarget | rdPrefix | rdLanes
  | rdResult | rdResultLane | rdLaneMax =>
    rw [decode_of_selectedBy_read h rfl, txnOff_of_selectedBy h rfl rfl]
    exact ⟨_, rfl, rfl⟩
  | rdRsvd off =>
    rw [decode_of_selectedBy_read h rfl]
    rcases txnOff_of_selectedBy_reserved h rfl rfl rfl with hslot | hslot <;> rw [hslot] <;> exact ⟨_, rfl, rfl⟩
  | wrId | wrStatus | wrData8 | wrData32 | wrCrcState | wrCrcResult | wrTarget | wrPrefix | wrLanes | wrResult
  | wrResultLane | wrLaneMax =>
    rw [decode_of_selectedBy_write h rfl, txnOff_of_selectedBy h rfl rfl]
    exact ⟨_, rfl, rfl⟩
  | wrCtrlSet nm ie =>
    have hbit : (txnData t).getLsbD 0 = false := getLsbD_zero_of_and_one (txnData_of_selectedBy h rfl)
    rw [decode_of_selectedBy_write h rfl, txnOff_of_selectedBy h rfl rfl]
    exact ⟨_, congrArg Except.ok (decodeCtrl_of_set hbit), rfl⟩
  | wrCtrlSrst =>
    have hbit : (txnData t).getLsbD 0 = true := getLsbD_zero_of_and_one (txnData_of_selectedBy h rfl)
    rw [decode_of_selectedBy_write h rfl, txnOff_of_selectedBy h rfl rfl]
    exact ⟨_, congrArg Except.ok (decodeCtrl_of_srst hbit), rfl⟩
  | wrCmdInit | wrCmdCaptureTarget | wrCmdStart | wrCmdClearErr | wrCmdAck =>
    have hword := BitVec.and_allOnes.symm.trans (txnData_of_selectedBy h rfl)
    rw [decode_of_selectedBy_write h rfl, txnOff_of_selectedBy h rfl rfl, hword]
    exact ⟨_, rfl, rfl⟩
  | wrRsvd off =>
    rw [decode_of_selectedBy_write h rfl]
    rcases txnOff_of_selectedBy_reserved h rfl rfl rfl with hslot | hslot <;> rw [hslot] <;> exact ⟨_, rfl, rfl⟩

/-- A row that does not look at DATA selects the descriptor with every DATA if it selects the one with DATA 0. -/
theorem selectedBy_of_zeroData {r : Row} {w : Bool} {off : Offset} (hmask : txnData r.mask = 0)
    (h : r.selectedBy (mkTxn w wordSize off 0) = true) (d : Word) : r.selectedBy (mkTxn w wordSize off d) = true := by
  rw [selectedBy_iff] at h ⊢
  simpa [hmask] using h

theorem decodeRead_ok {off : Offset} {i : Instr} (h : decodeRead off = .ok i) (d : Word) :
    i.wellFormed = true ∧ (rowOf i).selectedBy (mkTxn false wordSize off d) = true := by
  unfold decodeRead at h
  split at h <;> cases h <;> exact ⟨rfl, selectedBy_of_zeroData rfl rfl d⟩

theorem decodeCommand_ok {d : Word} {i : Instr} (h : decodeCommand d = .ok i) :
    i.wellFormed = true ∧ (rowOf i).selectedBy (writeTxn 0x0C d) = true := by
  unfold decodeCommand at h
  split at h <;> cases h <;> exact ⟨rfl, rfl⟩

/-- The two rows of CTRL look at bit 0 of DATA. -/
theorem decodeCtrl_ok (d : Word) :
    (decodeCtrl d).wellFormed = true ∧ (rowOf (decodeCtrl d)).selectedBy (writeTxn 0x04 d) = true := by
  have hbit0 : d &&& 1#32 = (BitVec.ofBool (d.getLsbD 0)).setWidth 32 := by
    apply BitVec.eq_of_getLsbD_eq
    intro i hi
    cases i <;> simp
  rw [selectedBy_iff, writeTxn, txnWrite_mkTxn, txnSize_mkTxn, txnOff_mkTxn, txnData_mkTxn]
  cases hbit : d.getLsbD 0 with
  | false =>
    rw [hbit] at hbit0
    rw [decodeCtrl_of_set hbit, rowOf]
    exact ⟨rfl, rfl, rfl, rfl, hbit0⟩
  | true =>
    rw [hbit] at hbit0
    rw [decodeCtrl_of_srst hbit, rowOf]
    exact ⟨rfl, rfl, rfl, rfl, hbit0⟩

theorem decodeWrite_ok {off : Offset} {d : Word} {i : Instr} (h : decodeWrite off d = .ok i) :
    i.wellFormed = true ∧ (rowOf i).selectedBy (writeTxn off d) = true := by
  unfold decodeWrite at h
  split at h
  case h_2 => exact Except.ok.inj h ▸ decodeCtrl_ok d
  case h_4 => exact decodeCommand_ok h
  case h_17 => cases h
  all_goals
    cases h
    refine ⟨rfl, ?_⟩
    rw [rowOf]
    exact selectedBy_of_zeroData rfl rfl d

/-- A well-formed read is the whole-word read of its offset, with some DATA (R56, R70). -/
theorem eq_wordRead_of_wellFormed {t : Txn} (hw : txnWrite t = false) (hwf : accessWellFormed t = true) :
    t = mkTxn false wordSize (txnOff t) (txnData t) := by
  have hboth : txnSize t = wordSize ∧ (txnOff t).extractLsb' 0 2 = 0#2 := by simpa [accessWellFormed] using hwf
  obtain ⟨hsize, -⟩ := hboth
  rw [← hw, ← hsize, mkTxn_fields]

/-- What a descriptor decodes to is well-formed, and its row selects the descriptor. -/
theorem selectedBy_of_decode {t : Txn} {i : Instr} (h : decode t = .ok i) :
    i.wellFormed = true ∧ (rowOf i).selectedBy t = true := by
  rcases decode_cases t with ⟨hwf, hw, hd⟩ | ⟨hwf, hw, hd⟩ | ⟨-, -, hd⟩ | ⟨-, -, hd⟩
  · rw [eq_writeTxn_of_wellFormed hw hwf]
    exact decodeWrite_ok (hd.symm.trans h)
  · rw [eq_wordRead_of_wellFormed hw hwf]
    exact decodeRead_ok (hd.symm.trans h) _
  · exact nomatch hd.symm.trans h
  · exact nomatch hd.symm.trans h

/-- Settles O2: two rows that select one descriptor are both the row of the one operation it decodes to. -/
theorem descriptorsSelectTheRowTheyDecodeTo : Obligations.DescriptorsSelectTheRowTheyDecodeTo := by
  refine ⟨fun t i => selectedBy_of_decode, fun t i => decode_of_selectedBy, fun t i j hi hj => ?_, fun t i hwf => ?_⟩
  · obtain ⟨k, hk, hrow⟩ := decode_of_selectedBy hi
    obtain ⟨k', hk', hrow'⟩ := decode_of_selectedBy hj
    rw [← hrow, ← hrow', Except.ok.inj (hk.symm.trans hk')]
  · rw [Bool.eq_false_iff]
    intro hsel
    exact absurd (accessWellFormed_of_selectedBy hsel) (ne_true_of_eq_false hwf)

/-! ### The descriptors that match no row (R75, R76) -/

theorem decodeCommand_of_isCommandWord {d : Word} (h : isCommandWord d) : ∃ i, decodeCommand d = .ok i := by
  rcases eq_of_isCommandWord h with rfl | rfl | rfl | rfl | rfl <;> exact ⟨_, rfl⟩

/-- The one way for a word-aligned write to match no row. -/
theorem decodeWrite_error_iff {off : Offset} (haligned : off.extractLsb' 0 2 = 0#2) (d : Word) (e : DecodeError) :
    decodeWrite off d = .error e ↔ e = .illegalCommand ∧ off = 0x0C ∧ ¬ isCommandWord d := by
  have hok {off' : Offset} {i : Instr} (h : decodeWrite off' d = .ok i) (hoff : off' ≠ 0x0C) :
      decodeWrite off' d = .error e ↔ e = .illegalCommand ∧ off' = 0x0C ∧ ¬ isCommandWord d := by
    rw [h]
    exact ⟨nofun, fun ⟨_, hcmd, _⟩ => absurd hcmd hoff⟩
  cases hro : readOnlyOffset off with
  | true =>
    obtain ⟨i, hi, -⟩ := decodeWrite_of_readOnlyOffset hro d
    refine hok hi ?_
    rintro rfl
    exact absurd hro (by decide)
  | false =>
    rcases writable_offset_cases haligned hro with rfl | rfl | hoff
    · exact hok (decodeWrite_ctrl d) (by decide)
    · rw [decodeWrite_cmd]
      by_cases hword : isCommandWord d
      · obtain ⟨i, hi⟩ := decodeCommand_of_isCommandWord hword
        simp [hi, hword]
      · simp [decodeCommand_of_not_isCommandWord hword, hword, eq_comm]
    · obtain ⟨i, hi, -⟩ := decodeWrite_isGated hoff d
      refine hok hi ?_
      rintro rfl
      exact absurd hoff (by decide)

/-- Settles O4: the decoder's first split names the bad accesses, a well-formed read matches a row, and so does a
well-formed write unless its word is no command. -/
theorem undecodedDescriptorsAreNamed : Obligations.UndecodedDescriptorsAreNamed := by
  intro t
  rcases decode_cases t with ⟨hwf, hw, hd⟩ | ⟨hwf, hw, hd⟩ | ⟨hwf, hw, hd⟩ | ⟨hwf, hw, hd⟩
  · have herror := decodeWrite_error_iff (aligned_of_accessWellFormed hwf) (txnData t)
    simp [hwf, hw, hd, herror]
  · obtain ⟨i, hi, -⟩ := decodeRead_reads_windowWord (aligned_of_accessWellFormed hwf)
    simp [hwf, hw, hd, hi]
  · simp [hwf, hw, hd]
  · simp [hwf, hw, hd]

/-! ### Host accesses (R50, R51) -/

theorem inWindow_iff (p : Params) (addr : Nat) : inWindow p addr = true ↔ p.base ≤ addr ∧ addr < p.base + 64 := by
  simp [inWindow]

theorem windowOffset_toNat (p : Params) {off : Nat} (hoff : off < 64) :
    (windowOffset p (p.base + off)).toNat = off := by
  rw [windowOffset, Nat.add_sub_cancel_left, BitVec.toNat_ofNat, Nat.mod_eq_of_lt hoff]

theorem memRead_of_inWindow {p : Params} {addr : Nat} (h : inWindow p addr = true) (n : AccessSize) :
    memRead p addr n = some (mkTxn false (sizeCode n) (windowOffset p addr) 0#32) := if_pos h

theorem memWrite_of_inWindow {p : Params} {addr : Nat} (h : inWindow p addr = true) (n : AccessSize) (v : Word) :
    memWrite p addr n v = some (mkTxn true (sizeCode n) (windowOffset p addr) v) := if_pos h

/-- Settles O6: the descriptor is made of the four fields, and the window test is the only condition. -/
theorem hostAccessesBecomeDescriptors : Obligations.HostAccessesBecomeDescriptors := by
  intro p n v
  refine ⟨Nat.mul_mod_right 64 p.window, fun off hoff => ?_, fun addr houtside => ?_⟩
  · have hin : inWindow p (p.base + off) = true := (inWindow_iff _ _).mpr (by omega)
    have htoNat := windowOffset_toNat p hoff
    exact ⟨⟨_, memRead_of_inWindow hin n, txnWrite_mkTxn .., txnSize_mkTxn .., by rw [txnOff_mkTxn, htoNat]⟩,
      ⟨_, memWrite_of_inWindow hin n v, txnWrite_mkTxn .., txnSize_mkTxn .., by rw [txnOff_mkTxn, htoNat],
        txnData_mkTxn ..⟩⟩
  · have hout : ¬ inWindow p addr = true := mt (inWindow_iff _ _).mp (by omega)
    exact ⟨if_neg hout, if_neg hout⟩

end Sys2Proof.Machine
end

section
/-! PROOFS. What one step can do to the block (spec/20_memory.md R52, R64), said once, and the rules that follow from it:
no step faults, the parameters are hardwired, a search ends only by reset or completion and keeps its inputs, and DONE
and irq rise only at completion. -/

namespace Sys2Proof.Machine

/-! ### Every step answers (R190, R195, R235) -/

theorem exec_answersNext (i : Instr) (s : State) : ∃ t, exec i s = .next t := by
  cases hread : isRead i with
  | true =>
    obtain ⟨v, hexec⟩ := exec_eq_readAs hread s
    exact ⟨_, hexec⟩
  | false =>
    cases hgated : isGated i with
    | true =>
      cases hbusy : s.busy with
      | true => exact ⟨_, exec_of_isGated_busy hgated hbusy⟩
      | false =>
        obtain ⟨u, hexec, -⟩ := exec_of_isGated_idle hgated hbusy
        exact ⟨_, hexec⟩
    | false =>
      cases i with
      | wrCtrlSrst => exact ⟨_, exec_wrCtrlSrst s⟩
      | wrCmdClearErr => exact ⟨_, exec_wrCmdClearErr s⟩
      | wrId | wrStatus | wrCrcResult | wrPrefix | wrResult | wrResultLane | wrLaneMax | wrRsvd => exact ⟨_, rfl⟩
      | _ => simp [isRead, isGated] at hread hgated

theorem runTxn_answersNext (d : Txn) (s : State) : ∃ t, runTxn d s = .next t := by
  cases hd : decode d with
  | ok i =>
    rw [runTxn_of_decode_ok hd]
    exact exec_answersNext i s
  | error e => exact ⟨_, runTxn_of_decode_error hd s⟩

/-- A step with nothing laid out is the search unit's own. -/
theorem step_of_nil {s : State} (ha : s.agenda = []) : step s = .next (unitTurn s) := by
  simp [step, ha]

/-- Settles O14, event by event of the agenda's head. -/
theorem everyStepAnswersNext : Obligations.EveryStepAnswersNext := by
  intro s
  cases ha : s.agenda with
  | nil => exact ⟨_, step_of_nil ha⟩
  | cons e rest =>
    cases e with
    | txn d =>
      rw [step_of_txn ha]
      exact runTxn_answersNext d _
    | rst => exact ⟨_, step_of_rst ha⟩
    | lane i => exact ⟨_, step_of_lane ha⟩
    | complete => exact ⟨_, step_of_complete ha⟩

/-- Settles O7. -/
theorem stepRunsTheDecodedOperation : Obligations.StepRunsTheDecodedOperation :=
  fun _ _ _ _ ha hd => step_of_decode ha hd

/-! ### The search unit's reads (R121, R124, R130, R132, R134) -/

theorem exec_rdTarget (s : State) : exec .rdTarget s = readAs s.target s := rfl

theorem exec_rdLanes (s : State) : exec .rdLanes s = readAs (s.lanes.setWidth 32) s := rfl

theorem exec_rdPrefix (s : State) : exec .rdPrefix s = readAs s.prefixState s := rfl

theorem exec_rdResult (s : State) : exec .rdResult s = readAs s.result s := rfl

theorem exec_rdResultLane (s : State) : exec .rdResultLane s = readAs (s.resultLane.setWidth 32) s := rfl

/-- Settles O30: each row is a read of one register. -/
theorem searchReadsAnswerTheirRegisters : Obligations.SearchReadsAnswerTheirRegisters := by
  refine ⟨fun d => ?_, fun s => ⟨?_, ?_, ?_, ?_, ?_⟩⟩
  · exact ⟨decode_wordRead _ d rfl, decode_wordRead _ d rfl, decode_wordRead _ d rfl, decode_wordRead _ d rfl,
      decode_wordRead _ d rfl⟩
  · rw [exec_rdTarget, readAs_eq]
  · rw [exec_rdLanes, readAs_eq, BitVec.ofNat_toNat]
  · rw [exec_rdPrefix, readAs_eq]
  · rw [exec_rdResult, readAs_eq]
  · rw [exec_rdResultLane, readAs_eq, BitVec.ofNat_toNat]

/-! ### What one step can do to the block -/

/-- The next step is the completion event, or, with nothing laid out, the search unit's own. -/
def UnitMayComplete (s : State) : Prop := s.agenda = [] ∨ ∃ rest, s.agenda = .complete :: rest

/-- The next step performs `Reset()`: it is the event rst, or a write that decodes to SRST. -/
def PerformsReset (s : State) : Prop :=
  (∃ rest, s.agenda = .rst :: rest) ∨ ∃ d rest, s.agenda = .txn d :: rest ∧ decode d = .ok .wrCtrlSrst

/-- Everything a step can do to the block, by what happens to the registers and the lane file. Only an accepted write,
a lane's test, `Complete()` and `Reset()` touch more than ERRCODE and the model's own fields. -/
inductive BlockStep (s : State) : State → Prop where
  | answered (a : List Event) (e : BitVec 4) (r : Reply) : (s.errcode.toNat ≤ 4 → e.toNat ≤ 4) →
      BlockStep s { s with agenda := a, errcode := e, reply := r }
  | laneTested (a : List Event) (n i : Nat) (l : Lane) : s.laneFile[i]? = some l → laneEnabled s l = true →
      BlockStep s { s with agenda := a, tick := n, laneFile := s.laneFile.set i (testTail s l) }
  | completed (a : List Event) : UnitMayComplete s → completionEnabled s = true →
      BlockStep s { completeSearch s with agenda := a }
  | reset (a : List Event) (r : Reply) : PerformsReset s → BlockStep s { resetBlock s with agenda := a, reply := r }
  | accepted (d : Txn) (a : List Event) (i : Instr) (u : State) : s.busy = false → s.agenda = .txn d :: a →
      decode d = .ok i → GatedEffect s i u → BlockStep s { u with agenda := a, reply := .write .okay }

/-- No gated write reads the agenda. -/
theorem GatedEffect.of_agenda {s u : State} {i : Instr} {a : List Event}
    (h : GatedEffect { s with agenda := a } i u) : ∃ v, GatedEffect s i v ∧ u = { v with agenda := a } := by
  cases h with
  | data8 b => exact ⟨_, .data8 b, rfl⟩
  | data32 w => exact ⟨_, .data32 w, rfl⟩
  | crcState v => exact ⟨_, .crcState v, rfl⟩
  | init => exact ⟨_, .init, rfl⟩
  | target v => exact ⟨_, .target v, rfl⟩
  | capture => exact ⟨_, .capture, rfl⟩
  | lanes n => exact ⟨_, .lanes n, rfl⟩
  | ctrl nm ie => exact ⟨_, .ctrl nm ie, rfl⟩
  | start => exact ⟨_, .start, rfl⟩
  | ack => exact ⟨_, .ack, rfl⟩

/-- A step that changes nothing of the block. -/
theorem BlockStep.agenda_only (s : State) (a : List Event) : BlockStep s { s with agenda := a } :=
  .answered a s.errcode s.reply id

theorem BlockStep.of_reject (s : State) (a : List Event) (c : RejectCode) :
    BlockStep s (reject c { s with agenda := a }) :=
  .answered a _ _ (reject_errcode_le c { s with agenda := a })

theorem blockStep_of_effect {s t : State} {d : Txn} {a : List Event} {i : Instr} (ha : s.agenda = .txn d :: a)
    (hd : decode d = .ok i) (h : Effect { s with agenda := a } i t) : BlockStep s t := by
  cases h with
  | read v => exact .answered a s.errcode _ id
  | refusedBusy => exact .of_reject s a .busy
  | refusedReadOnly => exact .of_reject s a .roWrite
  | accepted _ u hidle hu =>
    obtain ⟨v, hv, rfl⟩ := hu.of_agenda
    exact .accepted d a i v hidle ha hd hv
  | softReset => exact .reset a _ (.inr ⟨d, a, ha, hd⟩)
  | clearErr => exact .answered a 0 _ fun _ => Nat.zero_le 4

/-- A laid-out lane step, enabled or not. -/
theorem blockStep_of_laneStep (s : State) (a : List Event) (i : Nat) :
    BlockStep s (laneStep i { s with agenda := a }) := by
  rcases laneStep_cases i { s with agenda := a } with ⟨-, h⟩ | ⟨l, hl, he, -, h⟩ <;> rw [h]
  · exact .agenda_only s a
  · exact .laneTested a s.tick i l hl he

/-- A laid-out completion step, enabled or not. -/
theorem blockStep_of_completionStep {s : State} (a : List Event) (hs : UnitMayComplete s) :
    BlockStep s (completionStep { s with agenda := a }) := by
  rcases completionStep_cases { s with agenda := a } with ⟨-, h⟩ | ⟨he, h⟩ <;> rw [h]
  · exact .agenda_only s a
  · exact .completed a hs he

/-- The search unit's own step. -/
theorem blockStep_of_unitTurn {s : State} (ha : s.agenda = []) : BlockStep s (unitTurn s) := by
  rcases unitTurn_cases s with ⟨i, hi, h⟩ | ⟨-, h⟩ <;> rw [h]
  · rcases laneStep_cases i s with ⟨hdisabled, -⟩ | ⟨l, hl, he, -, hstep⟩
    · exact absurd (hdisabled.symm.trans hi) Bool.false_ne_true
    · rw [hstep]
      exact .laneTested s.agenda (s.tick + 1) i l hl he
  · exact blockStep_of_completionStep s.agenda (.inl ha)

/-- All a step can do to the block. -/
theorem blockStep_of_step {s t : State} (h : step s = .next t) : BlockStep s t := by
  rcases step_cases s t h with ⟨ha, rfl⟩ | ⟨d, rest, i, ha, hd, heffect⟩ | ⟨d, rest, e, ha, hd, rfl⟩ | ⟨rest, ha, rfl⟩
    | ⟨i, rest, ha, rfl⟩ | ⟨rest, ha, rfl⟩
  · exact blockStep_of_unitTurn ha
  · exact blockStep_of_effect ha hd heffect
  · rcases answerUndecoded_cases e { s with agenda := rest } with hbad | ⟨c, hrej⟩
    · rw [hbad]
      exact .answered rest s.errcode _ id
    · rw [hrej]
      exact .of_reject s rest c
  · exact .reset rest s.reply (.inl ⟨rest, ha⟩)
  · exact blockStep_of_laneStep s rest i
  · exact blockStep_of_completionStep rest (.inr ⟨rest, ha⟩)

/-! ### The parameters (R22, R45) -/

theorem GatedEffect.params_eq {s u : State} {i : Instr} (h : GatedEffect s i u) : u.params = s.params := by
  cases h <;> rfl

theorem BlockStep.params_eq {s t : State} (h : BlockStep s t) : t.params = s.params := by
  cases h with
  | answered | laneTested | completed | reset => rfl
  | accepted d a i u hidle ha hd hu => exact hu.params_eq

/-- Settles O57: LANE_MAX shows a parameter, and no step changes those. -/
theorem parametersAreHardwired : Obligations.ParametersAreHardwired := by
  intro s t h
  have hparams := (blockStep_of_step h).params_eq
  exact ⟨hparams, windowWord_id t, windowWord_laneMax_congr hparams⟩

/-! ### The end of a search and its inputs (R138, R141, R193, R222) -/

/-- Settles O48: of what a step can do to a searching block only `Reset()` and `Complete()` clear BUSY. -/
theorem onlyResetOrCompletionEndsASearch : Obligations.OnlyResetOrCompletionEndsASearch := by
  intro s t hbusy h hended
  cases blockStep_of_step h with
  | answered | laneTested => exact absurd hbusy (ne_true_of_eq_false hended)
  | completed a hs he =>
    obtain ⟨-, hfinished⟩ := (completionEnabled_iff s).mp he
    exact .inr ⟨hs, hfinished, rfl⟩
  | reset a r hs => exact .inl ⟨hs, rfl, rfl, rfl⟩
  | accepted d a i u hidle => exact absurd hbusy (ne_true_of_eq_false hidle)

/-- Settles O49: a step after which the search still goes on is an answer or a lane's test. -/
theorem searchInputsAreFixedDuringASearch : Obligations.SearchInputsAreFixedDuringASearch := by
  intro s t hbusy h hstill
  cases blockStep_of_step h with
  | answered | laneTested => exact ⟨rfl, rfl, rfl, rfl, rfl, rfl, rfl, rfl, rfl, rfl⟩
  | completed | reset => exact absurd hstill Bool.false_ne_true
  | accepted d a i u hidle => exact absurd hbusy (ne_true_of_eq_false hidle)

/-! ### DONE and irq (R28, R197, R198) -/

/-- An accepted write keeps DONE, or it is ACK or START and clears it. -/
theorem GatedEffect.done_cases {s u : State} {i : Instr} (h : GatedEffect s i u) :
    u.done = s.done ∨ (u.done = false ∧ (i = .wrCmdAck ∨ i = .wrCmdStart)) := by
  cases h with
  | start => exact .inr ⟨rfl, .inr rfl⟩
  | ack => exact .inr ⟨rfl, .inl rfl⟩
  | data8 | data32 | crcState | init | target | capture | lanes | ctrl => exact .inl rfl

/-- An accepted write keeps IRQEN, or it is a set of CTRL, which keeps DONE. -/
theorem GatedEffect.irqEn_cases {s u : State} {i : Instr} (h : GatedEffect s i u) :
    u.irqEn = s.irqEn ∨ ∃ nm, i = .wrCtrlSet nm u.irqEn ∧ u.done = s.done := by
  cases h with
  | ctrl nm ie => exact .inr ⟨nm, rfl, rfl⟩
  | data8 | data32 | crcState | init | target | capture | lanes | start | ack => exact .inl rfl

theorem irq_iff (s : State) : s.irq = true ↔ s.done = true ∧ s.irqEn = true := Bool.and_eq_true_iff

/-- An accepted write that raises irq sets IRQEN while DONE is 1. -/
theorem GatedEffect.irq_rises {s u : State} {i : Instr} (h : GatedEffect s i u) (hlow : s.irq = false)
    (hhigh : u.irq = true) : ∃ nm, i = .wrCtrlSet nm true ∧ s.done = true := by
  obtain ⟨hdone, hirqEn⟩ := (irq_iff u).mp hhigh
  rcases h.irqEn_cases with hkept | ⟨nm, hi, hsame⟩
  · have hbefore : s.done = true := by
      rcases h.done_cases with hsame | ⟨hcleared, -⟩
      · exact hsame.symm.trans hdone
      · exact absurd hdone (ne_true_of_eq_false hcleared)
    exact absurd ((irq_iff s).mpr ⟨hbefore, hkept.symm.trans hirqEn⟩) (ne_true_of_eq_false hlow)
  · exact ⟨nm, hirqEn ▸ hi, hsame.symm.trans hdone⟩

theorem BlockStep.done_rises {s t : State} (h : BlockStep s t) (hlow : s.done = false) (hhigh : t.done = true) :
    UnitMayComplete s ∧ completionEnabled s = true := by
  cases h with
  | answered | laneTested => exact absurd hhigh (ne_true_of_eq_false hlow)
  | completed a hs he => exact ⟨hs, he⟩
  | reset => exact absurd hhigh Bool.false_ne_true
  | accepted d a i u hidle ha hd hu =>
    rcases hu.done_cases with hsame | ⟨hcleared, -⟩
    · exact absurd hhigh (ne_true_of_eq_false (hsame.trans hlow))
    · exact absurd hhigh (ne_true_of_eq_false hcleared)

theorem BlockStep.done_falls {s t : State} (h : BlockStep s t) (hhigh : s.done = true) (hlow : t.done = false) :
    (∃ rest, s.agenda = .rst :: rest)
    ∨ ∃ d rest, s.agenda = .txn d :: rest
        ∧ (decode d = .ok .wrCtrlSrst ∨ decode d = .ok .wrCmdAck ∨ decode d = .ok .wrCmdStart) := by
  cases h with
  | answered | laneTested => exact absurd hhigh (ne_true_of_eq_false hlow)
  | completed => exact absurd hlow.symm Bool.false_ne_true
  | reset a r hs =>
    rcases hs with hrst | ⟨d, rest, ha, hd⟩
    · exact .inl hrst
    · exact .inr ⟨d, rest, ha, .inl hd⟩
  | accepted d a i u hidle ha hd hu =>
    rcases hu.done_cases with hsame | ⟨-, rfl | rfl⟩
    · exact absurd hhigh (ne_true_of_eq_false (hsame.symm.trans hlow))
    · exact .inr ⟨d, a, ha, .inr (.inl hd)⟩
    · exact .inr ⟨d, a, ha, .inr (.inr hd)⟩

theorem BlockStep.irq_rises {s t : State} (h : BlockStep s t) (hlow : s.irq = false) (hhigh : t.irq = true) :
    (UnitMayComplete s ∧ completionEnabled s = true ∧ s.irqEn = true)
    ∨ ∃ d rest nm, s.agenda = .txn d :: rest ∧ decode d = .ok (.wrCtrlSet nm true) ∧ s.done = true := by
  cases h with
  | answered | laneTested => exact absurd hhigh (ne_true_of_eq_false hlow)
  | completed a hs he =>
    obtain ⟨-, hirqEn⟩ := (irq_iff _).mp hhigh
    exact .inl ⟨hs, he, hirqEn⟩
  | reset a r hs => exact absurd hhigh (ne_true_of_eq_false (resetBlock_irq s))
  | accepted d a i u hidle ha hd hu =>
    obtain ⟨nm, rfl, hdone⟩ := hu.irq_rises hlow hhigh
    exact .inr ⟨d, a, nm, ha, hd, hdone⟩

/-- Settles O56: irq is the conjunction of DONE and IRQEN, so it rises where one of them does. -/
theorem completionIsTheOnlyInterruptSource : Obligations.CompletionIsTheOnlyInterruptSource := by
  intro s t h
  have hstep := blockStep_of_step h
  exact ⟨hstep.done_rises, hstep.done_falls, hstep.irq_rises⟩

end Sys2Proof.Machine
end

section
/-! PROOFS. The checksum functions as linear maps and bijections (spec/41_checksum_engine.md R109, R111;
spec/42_collision_search.md R137): the linearity of `Upd`, the procedure init, feed, read, and the one matching tail. -/

namespace Sys2Proof.Machine

/-! ### Linearity (R109) -/

/-- Settles O24: `Upd` is eight linear steps of the XOR of its arguments. -/
theorem byteUpdateIsLinear : Obligations.ByteUpdateIsLinear := by
  intro s1 s2 b1 b2
  have hregroup : s1 ^^^ s2 ^^^ (b1 ^^^ b2).setWidth 32 = (s1 ^^^ b1.setWidth 32) ^^^ (s2 ^^^ b2.setWidth 32) := by
    rw [BitVec.setWidth_xor]
    ac_rfl
  rw [crcUpd_eq_crcStepN, crcUpd_eq_crcStepN, crcUpd_eq_crcStepN, hregroup, crcStepN_xor]

/-! ### The matching tail (R137) -/

theorem crcInvStepN_eq_iterate (n : Nat) : crcInvStepN n = crcInvStep^[n] := by
  funext y
  induction n generalizing y with
  | zero => rfl
  | succ n ih => exact ih (crcInvStep y)

theorem crcStepN_crcInvStepN (n : Nat) (y : Word) : crcStepN n (crcInvStepN n y) = y := by
  rw [crcStepN_eq_iterate, crcInvStepN_eq_iterate]
  exact Function.RightInverse.iterate crcStep_crcInvStep n y

/-- The tail in closed form has the target's checksum. -/
theorem crcFin_crcFeed_matchingTail (p t : Word) : crcFin (crcFeed p (le32 (matchingTail p t))) = t :=
  calc crcFin (crcFeed p (le32 (matchingTail p t)))
      = crcFin (crcStepN 32 (p ^^^ (p ^^^ crcInvStepN 32 (~~~t)))) := by rw [crcFeed_le32, matchingTail]
    _ = crcFin (~~~t) := by rw [← BitVec.xor_assoc, BitVec.xor_self, BitVec.zero_xor, crcStepN_crcInvStepN]
    _ = t := BitVec.not_not

/-- It is the only one, because the checksum is injective in the tail. -/
theorem eq_matchingTail_iff (p t v : Word) : crcFin (crcFeed p (le32 v)) = t ↔ v = matchingTail p t := by
  constructor
  · intro h
    exact (crcFin_crcFeed_le32_bijective p).injective (h.trans (crcFin_crcFeed_matchingTail p t).symm)
  · rintro rfl
    exact crcFin_crcFeed_matchingTail p t

/-- Settles O41. -/
theorem exactlyOneTailMatches : Obligations.ExactlyOneTailMatches :=
  fun p t => ⟨crcFin_crcFeed_matchingTail p t, fun v => (eq_matchingTail_iff p t v).mp⟩

/-! ### The procedure init, feed, read (R83, R111) -/

/-- A byte shifted to a place of the word is read back there, and leaves the other places clear. -/
theorem extractLsb'_shiftedByte_same (b : Byte) {n : Nat} (hn : n + 8 ≤ 32) :
    (b.setWidth 32 <<< n).extractLsb' n 8 = b := by
  apply BitVec.eq_of_getLsbD_eq
  intro i hi
  simp [hi, show n + i < 32 by omega]

theorem extractLsb'_shiftedByte_other (b : Byte) {n k : Nat} (hnk : n + 8 ≤ k ∨ k + 8 ≤ n) :
    (b.setWidth 32 <<< n).extractLsb' k 8 = 0#8 := by
  apply BitVec.eq_of_getLsbD_eq
  intro i hi
  rcases hnk with hbelow | habove
  · simp [b.getLsbD_of_ge (k + i - n) (by omega)]
  · simp [show k + i < n by omega]

theorem wordOfBytes_eq (b0 b1 b2 b3 : Byte) :
    wordOfBytes b0 b1 b2 b3
      = (b3.setWidth 32 <<< 24) ||| (b2.setWidth 32 <<< 16) ||| (b1.setWidth 32 <<< 8) ||| (b0.setWidth 32 <<< 0) := by
  rw [wordOfBytes, BitVec.shiftLeft_zero]

/-- The four bytes of a full group are those that DATA32 feeds (R8, R83). -/
theorem le32_wordOfBytes (b0 b1 b2 b3 : Byte) : le32 (wordOfBytes b0 b1 b2 b3) = [b0, b1, b2, b3] := by
  simp [le32, wordOfBytes_eq, -BitVec.shiftLeft_zero, BitVec.extractLsb'_or, extractLsb'_shiftedByte_same,
    extractLsb'_shiftedByte_other]
theorem feedsBytes_of_mem_feedOps {bytes : List Byte} : ∀ i ∈ feedOps bytes, FeedsBytes i := by
  induction bytes using feedOps.induct with
  | case1 b0 b1 b2 b3 rest ih =>
    rw [feedOps]
    exact List.forall_mem_cons.mpr ⟨.inr ⟨_, rfl⟩, ih⟩
  | case2 rest hshort =>
    rw [feedOps]
    · exact List.forall_mem_map.mpr fun b _ => .inl ⟨b, rfl⟩
    · exact hshort

/-- `feed bytes` feeds the bytes, in order (R83). -/
theorem flatMap_fedBytes_feedOps (bytes : List Byte) : (feedOps bytes).flatMap fedBytes = bytes := by
  induction bytes using feedOps.induct with
  | case1 b0 b1 b2 b3 rest ih =>
    rw [feedOps, List.flatMap_cons, ih, fedBytes, le32_wordOfBytes]
    rfl
  | case2 rest hshort =>
    rw [feedOps]
    · simp [List.flatMap_map, fedBytes]
    · exact hshort

theorem run_add_of_run {M : Host.Core} {m : Nat} {s t : M.State} (h : M.run m s = .next t) (n : Nat) :
    M.run (m + n) s = M.run n t := by
  induction m generalizing s with
  | zero => rw [Nat.zero_add, Host.Outcome.next.inj h]
  | succ m ih =>
    rw [Nat.add_right_comm]
    cases hs : M.step s with
    | next u => exact (run_succ_of_next hs (m + n)).trans (ih ((run_succ_of_next hs m).symm.trans h))
    | fault r => simp [Host.Core.run, hs] at h
    | refused r => simp [Host.Core.run, hs] at h

/-- An operation issued as the next transaction is performed. -/
theorem step_of_issued {i : Instr} (hwf : i.wellFormed = true) (s : State) (rest : List Event) :
    step { s with agenda := .txn (encode i) :: rest } = exec i { s with agenda := rest } :=
  step_of_decode rfl (decodeOfEncodeIsTheOperation i hwf)

theorem step_of_init {s : State} (hidle : s.busy = false) (rest : List Event) :
    step { s with agenda := .txn (encode .wrCmdInit) :: rest }
      = .next { s with agenda := rest, crcState := 0xFFFFFFFF, reply := .write .okay } :=
  calc step { s with agenda := .txn (encode .wrCmdInit) :: rest }
      = exec .wrCmdInit { s with agenda := rest } := step_of_issued rfl s rest
    _ = gatedCrcLoad (fun _ => 0xFFFFFFFF) { s with agenda := rest } := exec_wrCmdInit _
    _ = _ := gatedCrcLoad_of_idle _ hidle

theorem step_of_readResult (s : State) (rest : List Event) :
    step { s with agenda := .txn (encode .rdCrcResult) :: rest }
      = .next { s with agenda := rest, reply := .read (crcFin s.crcState) .okay } :=
  step_of_issued rfl s rest

/-- The operations of `crc32`, with the feeding writes in the middle (R83). -/
theorem issueOps_expandPseudo_crc32 (bytes : List Byte) (rest : List Event) :
    issueOps (expandPseudo (.crc32 bytes)) ++ rest
      = .txn (encode .wrCmdInit) :: (issueOps (feedOps bytes) ++ .txn (encode .rdCrcResult) :: rest) := by
  simp [expandPseudo, issueOps]

/-- Settles O26: INIT, then the feeding writes of the bytes, then the read of the complemented register. -/
theorem checksumProcedureReturnsTheChecksum : Obligations.ChecksumProcedureReturnsTheChecksum := by
  intro s bytes rest hidle
  have hlength : (expandPseudo (.crc32 bytes)).length = (feedOps bytes).length + 1 + 1 := by simp [expandPseudo]
  obtain ⟨r, hfeed⟩ := run_feedingWrites { s with crcState := 0xFFFFFFFF, reply := .write .okay } (feedOps bytes)
    (.txn (encode .rdCrcResult) :: rest) hidle feedsBytes_of_mem_feedOps
  rw [flatMap_fedBytes_feedOps] at hfeed
  rw [issueOps_expandPseudo_crc32, hlength]
  have hinit := step_of_init hidle (issueOps (feedOps bytes) ++ .txn (encode .rdCrcResult) :: rest)
  have hread := step_of_readResult { s with crcState := crcFeed 0xFFFFFFFF bytes, reply := r } rest
  calc Host.Core.run Sys2Proof.core ((feedOps bytes).length + 1 + 1) _
      = Host.Core.run Sys2Proof.core ((feedOps bytes).length + 1) _ := run_succ_of_step hinit _
    _ = Host.Core.run Sys2Proof.core 1 _ := run_add_of_run (M := Sys2Proof.core) hfeed 1
    _ = _ := run_succ_of_step hread 0

end Sys2Proof.Machine
end

section
/-! PROOFS. The search unit's steps by themselves (spec/42_collision_search.md R127 to R129, R138): the steps that are not
enabled, the unit's own choice, and the order of two lane steps. -/

namespace Sys2Proof.Machine

/-! ### Steps that are not enabled (log entry 4) -/

theorem laneEnabled_eq_false_iff (s : State) (l : Lane) :
    laneEnabled s l = false ↔ s.busy = false ∨ l.active = false ∨ l.found = true ∨ l.limit.toNat ≤ l.cur.toNat := by
  rw [← Bool.not_eq_true, laneEnabled_iff]
  simp [Decidable.imp_iff_not_or]

theorem completionEnabled_eq_false_iff (s : State) :
    completionEnabled s = false
      ↔ s.busy = false ∨ ∃ l ∈ s.laneFile, l.active = true ∧ l.found = false ∧ l.cur ≠ l.limit := by
  rw [← Bool.not_eq_true, completionEnabled_iff]
  simp [Decidable.imp_iff_not_or]

theorem laneEnabledAt_eq_false_iff (s : State) (i : Nat) :
    laneEnabledAt s i = false ↔ ∀ l, s.laneFile[i]? = some l → laneEnabled s l = false := by
  cases h : s.laneFile[i]? <;> simp [laneEnabledAt, h]

theorem laneStep_of_not_enabled {s : State} {i : Nat} (h : laneEnabledAt s i = false) : laneStep i s = s := by
  rcases laneStep_cases i s with ⟨-, hstep⟩ | ⟨l, -, -, henabled, -⟩
  · exact hstep
  · exact absurd henabled (ne_true_of_eq_false h)

theorem completionStep_of_not_enabled {s : State} (h : completionEnabled s = false) : completionStep s = s :=
  if_neg (ne_true_of_eq_false h)

/-- Settles O37: each list of causes is the negation of the step's conditions. -/
theorem disabledUnitStepsChangeNothing : Obligations.DisabledUnitStepsChangeNothing := by
  constructor
  · intro s i rest ha hcauses
    have hdisabled : laneEnabledAt { s with agenda := rest } i = false :=
      (laneEnabledAt_eq_false_iff _ i).mpr fun l hl => (laneEnabled_eq_false_iff _ l).mpr (hcauses l hl)
    rw [step_of_lane ha, laneStep_of_not_enabled hdisabled]
  · intro s rest ha hcauses
    have hdisabled : completionEnabled { s with agenda := rest } = false :=
      (completionEnabled_eq_false_iff _).mpr hcauses
    rw [step_of_complete ha, completionStep_of_not_enabled hdisabled]

/-! ### The unit's own step (log entries 3 and 4) -/

/-- An idle block has no enabled unit step. -/
theorem laneEnabledAt_of_idle {s : State} (hidle : s.busy = false) (i : Nat) : laneEnabledAt s i = false :=
  (laneEnabledAt_eq_false_iff s i).mpr fun l _ => (laneEnabled_eq_false_iff s l).mpr (.inl hidle)

theorem completionEnabled_of_idle {s : State} (hidle : s.busy = false) : completionEnabled s = false :=
  (completionEnabled_eq_false_iff s).mpr (.inl hidle)

/-- With no lane enabled only the completion step is left. -/
theorem unitTurn_of_no_lane {s : State} (hnone : ∀ i, laneEnabledAt s i = false) : unitTurn s = completionStep s := by
  rcases unitTurn_cases s with ⟨i, hi, -⟩ | ⟨-, hturn⟩
  · exact absurd hi (ne_true_of_eq_false (hnone i))
  · exact hturn

/-- With some lane enabled the step is a lane's. -/
theorem unitTurn_of_lane {s : State} {i : Nat} (hi : laneEnabledAt s i = true) :
    ∃ j, laneEnabledAt s j = true ∧ unitTurn s = { laneStep j s with tick := s.tick + 1 } := by
  rcases unitTurn_cases s with hlane | ⟨hnone, -⟩
  · exact hlane
  · exact absurd hi (ne_true_of_eq_false (hnone i))

/-- Settles O38, by the two cases of the unit's choice. -/
theorem unitMovesWhenNothingIsLaidOut : Obligations.UnitMovesWhenNothingIsLaidOut := by
  intro s ha
  rw [step_of_nil ha]
  refine ⟨fun i hi => ?_, fun hnone hcomplete => ?_, fun hidle => ?_⟩
  · obtain ⟨j, hj, hturn⟩ := unitTurn_of_lane hi
    exact ⟨j, hj, congrArg Host.Outcome.next hturn⟩
  · rw [unitTurn_of_no_lane hnone, completionStep_of_enabled hcomplete]
  · rw [unitTurn_of_no_lane (laneEnabledAt_of_idle hidle),
      completionStep_of_not_enabled (completionEnabled_of_idle hidle)]

/-! ### The order of two lane steps (R138) -/

/-- What a lane step leaves of its lane's entry, enabled or not. It reads the registers and that entry alone. -/
def laneAfter (s : State) (l : Lane) : Lane := if laneEnabled s l then testTail s l else l

/-- A lane step modifies its own entry of the lane file and nothing else. -/
theorem laneStep_eq_modify (i : Nat) (s : State) :
    laneStep i s = { s with laneFile := s.laneFile.modify i (laneAfter s) } := by
  rw [List.modify_eq_set_getElem?]
  rcases laneStep_cases i s with ⟨hdisabled, hstep⟩ | ⟨l, hl, he, -, hstep⟩
  · rw [hstep]
    cases hl : s.laneFile[i]? with
    | none => rfl
    | some l =>
      have hkept : laneAfter s l = l := if_neg (ne_true_of_eq_false ((laneEnabledAt_eq_false_iff s i).mp hdisabled l hl))
      obtain ⟨hi, rfl⟩ := List.getElem?_eq_some_iff.mp hl
      simp [hkept]
  · have htested : laneAfter s l = testTail s l := if_pos he
    simp [hstep, hl, htested]

/-- Entries of different lanes are modified independently. -/
theorem laneStep_comm (i j : Nat) (s : State) : laneStep j (laneStep i s) = laneStep i (laneStep j s) := by
  by_cases hij : i = j
  · rw [hij]
  · have hsame (k : Nat) : laneAfter (laneStep k s) = laneAfter s := by
      rw [laneStep_eq_modify]
      rfl
    rw [laneStep_eq_modify j (laneStep i s), laneStep_eq_modify i (laneStep j s), hsame, hsame, laneStep_eq_modify i s,
      laneStep_eq_modify j s, List.modify_modify_ne _ _ _ hij]

/-- A lane step neither reads nor changes what is laid out. -/
theorem laneStep_agenda (i : Nat) (s : State) (a : List Event) :
    laneStep i { s with agenda := a } = { laneStep i s with agenda := a } := by
  rw [laneStep_eq_modify, laneStep_eq_modify]
  rfl

theorem run_two_lane_steps (i j : Nat) (s : State) (rest : List Event) :
    Host.Core.run Sys2Proof.core 2 { s with agenda := .lane i :: .lane j :: rest }
      = .next { laneStep j (laneStep i s) with agenda := rest } := by
  have hfirst : step { s with agenda := .lane i :: .lane j :: rest }
      = .next { laneStep i s with agenda := .lane j :: rest } :=
    (step_of_lane rfl).trans (congrArg Host.Outcome.next (laneStep_agenda i s _))
  have hsecond : step { laneStep i s with agenda := .lane j :: rest }
      = .next { laneStep j (laneStep i s) with agenda := rest } :=
    (step_of_lane rfl).trans (congrArg Host.Outcome.next (laneStep_agenda j (laneStep i s) _))
  exact (run_succ_of_step hfirst 1).trans (run_succ_of_step hsecond 0)

/-- Settles O46. -/
theorem laneStepsCommute : Obligations.LaneStepsCommute := by
  intro s i j rest
  rw [run_two_lane_steps, run_two_lane_steps, laneStep_comm]

end Sys2Proof.Machine
end

section
/-! PROOFS. The two invariants (spec/10_state.md sections 4 and 7; spec/42_collision_search.md sections 4 and 6): they hold
after reset, and every step keeps each of them. -/

namespace Sys2Proof.Machine

/-! ### Reset (R221) -/

theorem resetFor_inv (p : Params) : (State.resetFor p).Inv := by
  have hlanes : (State.resetFor p).lanes.toNat = p.nlanesMax := resetBlock_lanes_toNat (State.resetFor p)
  have hpos : 1 ≤ p.nlanesMax := Nat.succ_pos _
  refine ⟨List.length_replicate, hlanes ▸ hpos, hlanes.le, Nat.zero_le 4, nofun, fun _ => rfl, fun _ => ⟨rfl, rfl⟩,
    nofun, fun _ l hl => ?_⟩
  rw [List.eq_of_mem_replicate hl, Lane.reset]

/-- The search invariant speaks of searching blocks only. -/
theorem searchInv_of_idle {s : State} (hidle : s.busy = false) : s.SearchInv :=
  fun hbusy => absurd hbusy (ne_true_of_eq_false hidle)

/-- Settles O17. -/
theorem resetMeetsTheInvariants : Obligations.ResetMeetsTheInvariants :=
  ⟨resetFor_inv Config.params, searchInv_of_idle rfl⟩

/-! ### The register invariant -/

/-- A legalised worker count is in 1 to NLANES_MAX (R123). -/
theorem legalLanes_range {n : Nat} (hpos : 1 ≤ n) (hn : n ≤ 256) (d : Word) :
    1 ≤ (legalLanes n d).toNat ∧ (legalLanes n d).toNat ≤ n := by
  by_cases hzero : d.toNat = 0
  · obtain rfl : d = 0#32 := BitVec.eq_of_toNat_eq hzero
    exact ⟨Nat.le_refl 1, hpos⟩
  · rcases Nat.lt_or_ge n d.toNat with hlt | hle
    · rw [legalLanes_toNat_of_lt hn hlt]
      exact ⟨hpos, Nat.le_refl n⟩
    · rw [legalLanes_toNat_of_le hn (by omega) hle]
      exact ⟨by omega, hle⟩

/-- The index of a winner is that of a built lane, so RESULT_LANE holds it. -/
theorem firstWinner_index_lt {ls : List Lane} {k : Nat} {v : Word} (h : firstWinner 0 ls = some (k, v)) :
    k < ls.length := by
  obtain ⟨l, -, hl, -⟩ := firstWinner_some h
  exact (List.getElem?_eq_some_iff.mp hl).1

theorem completeSearch_inv {s : State} (h : s.Inv) : (completeSearch s).Inv := by
  obtain ⟨hlength, hlanes, hlanes', herr, -, -, -, -, -⟩ := h
  have hfile : (completeSearch s).laneFile.length = s.params.nlanesMax := by simpa using hlength
  have hinactive : ∀ l ∈ (completeSearch s).laneFile, l.active = false := by simp
  cases hw : firstWinner 0 s.laneFile with
  | none =>
    rw [completeSearch_of_no_winner hw] at hfile hinactive ⊢
    exact ⟨hfile, hlanes, hlanes', herr, nofun, nofun, fun _ => ⟨rfl, rfl⟩, nofun, fun _ => hinactive⟩
  | some winner =>
    obtain ⟨k, v⟩ := winner
    have hk : k < s.params.nlanesMax := (firstWinner_index_lt hw).trans_eq hlength
    have hlane : (BitVec.ofNat 8 k).toNat < s.params.nlanesMax := (Nat.mod_le k _).trans_lt hk
    rw [completeSearch_of_winner hw] at hfile hinactive ⊢
    exact ⟨hfile, hlanes, hlanes', herr, nofun, nofun, nofun, fun _ => hlane, fun _ => hinactive⟩

/-- No accepted write leaves the registers' bounds: LANES is legalised, START leaves no result, ACK only clears DONE. -/
theorem GatedEffect.inv {s u : State} {i : Instr} (h : GatedEffect s i u) (hinv : s.Inv) : u.Inv := by
  obtain ⟨hlength, hlanes, hlanes', herr, hexcl, hsearch, hnone, hfound, hidle⟩ := hinv
  cases h with
  | data8 | data32 | crcState | init | target | capture | ctrl =>
    exact ⟨hlength, hlanes, hlanes', herr, hexcl, hsearch, hnone, hfound, hidle⟩
  | lanes n =>
    obtain ⟨hpos, hle⟩ := legalLanes_range (hlanes.trans hlanes') (nlanesMax_le s.params) n
    exact ⟨hlength, hpos, hle, herr, hexcl, hsearch, hnone, hfound, hidle⟩
  | start =>
    exact ⟨(startSearch_laneFile_length s).trans hlength, hlanes, hlanes', herr, nofun, fun _ => rfl,
      fun _ => ⟨rfl, rfl⟩, nofun, nofun⟩
  | ack => exact ⟨hlength, hlanes, hlanes', herr, nofun, hsearch, hnone, hfound, hidle⟩

theorem BlockStep.inv {s t : State} (h : BlockStep s t) (hinv : s.Inv) : t.Inv := by
  obtain ⟨hlength, hlanes, hlanes', herr, hexcl, hsearch, hnone, hfound, hidle⟩ := id hinv
  cases h with
  | answered a e r he => exact ⟨hlength, hlanes, hlanes', he herr, hexcl, hsearch, hnone, hfound, hidle⟩
  | laneTested a n i l hl he =>
    obtain ⟨hbusy, -⟩ := (laneEnabled_iff s l).mp he
    exact ⟨List.length_set.trans hlength, hlanes, hlanes', herr, hexcl, hsearch, hnone, hfound,
      fun hnot => absurd hbusy (ne_true_of_eq_false hnot)⟩
  | completed => exact completeSearch_inv hinv
  | reset => exact resetFor_inv s.params
  | accepted d a i u hnot ha hd hu => exact hu.inv hinv

/-- Settles O39: each of the things a step can do to the block keeps the registers' bounds. -/
theorem everyStepKeepsTheStateInvariant : Obligations.EveryStepKeepsTheStateInvariant :=
  fun _ _ hinv h => (blockStep_of_step h).inv hinv

/-! ### The search invariant -/

theorem rangeStart_le_tailCount (t i : Nat) : rangeStart t i ≤ tailCount := Nat.min_le_right _ _

theorem rangeEnd_le_tailCount (t i : Nat) : rangeEnd t i ≤ tailCount := Nat.min_le_right _ _

theorem rangeStart_monotone (t : Nat) : Monotone (rangeStart t) :=
  fun _ _ hij => min_le_min_right _ (Nat.mul_le_mul_right _ hij)

/-- A lane counter holds every bound of a range: 33 bits hold 2^32 (R40). -/
theorem toNat_ofNat_of_le_tailCount {n : Nat} (h : n ≤ tailCount) : (BitVec.ofNat 33 n).toNat = n := by
  rw [BitVec.toNat_ofNat, Nat.mod_eq_of_lt (h.trans_lt (by decide))]

/-- The scan of a lane of the search. -/
theorem laneScan_iff_of_lt {s : State} {i : Nat} (hi : i < s.lanes.toNat) (l : Lane) :
    s.LaneScan i l
      ↔ l.active = true ∧ l.limit.toNat = rangeEnd s.lanes.toNat i ∧ rangeStart s.lanes.toNat i ≤ l.cur.toNat
        ∧ l.cur.toNat ≤ l.limit.toNat
        ∧ (∀ v : Nat, rangeStart s.lanes.toNat i ≤ v → v < l.cur.toNat → tailMatches s (BitVec.ofNat 32 v) = false)
        ∧ (l.found = true → l.cur.toNat < l.limit.toNat ∧ l.val = l.cur.setWidth 32 ∧ tailMatches s l.val = true) := by
  rw [State.LaneScan, if_pos hi]

/-- Every other lane is inactive. -/
theorem laneScan_iff_of_ge {s : State} {i : Nat} (hi : s.lanes.toNat ≤ i) (l : Lane) :
    s.LaneScan i l ↔ l.active = false := by
  rw [State.LaneScan, if_neg (Nat.not_lt_of_le hi)]

theorem lt_lanes_of_active {s : State} {i : Nat} {l : Lane} (hscan : s.LaneScan i l) (hactive : l.active = true) :
    i < s.lanes.toNat := by
  by_contra hi
  exact absurd hactive (ne_true_of_eq_false ((laneScan_iff_of_ge (Nat.le_of_not_lt hi) l).mp hscan))

/-- START arms each lane at the start of its range, with no tail tested (R126). -/
theorem startLane_scan (s : State) (i : Nat) (l : Lane) : (startSearch s).LaneScan i (startLane s.lanes.toNat i l) := by
  rcases Nat.lt_or_ge i s.lanes.toNat with hi | hi
  · have hcur := toNat_ofNat_of_le_tailCount (rangeStart_le_tailCount s.lanes.toNat i)
    have hlimit := toNat_ofNat_of_le_tailCount (rangeEnd_le_tailCount s.lanes.toNat i)
    rw [startLane_of_lt hi]
    refine (laneScan_iff_of_lt (s := startSearch s) hi _).mpr ⟨rfl, hlimit, hcur.ge, ?_,
      fun v hle hlt => absurd hlt (hcur.trans_le hle).not_gt, nofun⟩
    rw [hcur, hlimit, rangeEnd_eq_rangeStart_succ]
    exact rangeStart_monotone _ (Nat.le_succ i)
  · rw [startLane_of_ge hi]
    exact (laneScan_iff_of_ge (s := startSearch s) hi _).mpr rfl

theorem startSearch_searchInv (s : State) : (startSearch s).SearchInv := by
  intro _ i l hl
  rw [startSearch_laneFile, List.getElem?_mapIdx, Option.map_eq_some_iff] at hl
  obtain ⟨old, -, rfl⟩ := hl
  exact startLane_scan s i old

/-- A test moves an enabled lane past a tail that does not match, or stops it at one that does (R127). -/
theorem testTail_scan {s : State} {i : Nat} {l : Lane} (hscan : s.LaneScan i l) (he : laneEnabled s l = true) :
    s.LaneScan i (testTail s l) := by
  obtain ⟨-, hactive, hfound, hlt⟩ := (laneEnabled_iff s l).mp he
  have hi := lt_lanes_of_active hscan hactive
  rw [laneScan_iff_of_lt hi] at hscan ⊢
  obtain ⟨-, hlimit, hstart, -, htested, -⟩ := hscan
  by_cases hm : tailMatches s (l.cur.setWidth 32) = true
  · rw [testTail_of_match hm]
    exact ⟨hactive, hlimit, hstart, hlt.le, htested, fun _ => ⟨hlt, rfl, hm⟩⟩
  · have hnext := toNat_add_one_of_lt hlt
    rw [testTail_of_no_match hm]
    refine ⟨hactive, hlimit, ?_, ?_, fun v hle hv => ?_, fun h => absurd h (ne_true_of_eq_false hfound)⟩
    · rw [hnext]
      exact Nat.le_succ_of_le hstart
    · rw [hnext]
      exact hlt
    · rw [hnext] at hv
      rcases Nat.lt_succ_iff_lt_or_eq.mp hv with hbelow | rfl
      · exact htested v hle hbelow
      · rw [BitVec.ofNat_toNat]
        exact Bool.eq_false_iff.mpr hm

/-- A lane's test touches no other lane's entry. -/
theorem laneTested_searchInv {s : State} {i : Nat} {l : Lane} (hinv : s.SearchInv) (hl : s.laneFile[i]? = some l)
    (he : laneEnabled s l = true) : State.SearchInv { s with laneFile := s.laneFile.set i (testTail s l) } := by
  intro hbusy j m hm
  rw [List.getElem?_set] at hm
  split at hm
  next hij =>
    subst hij
    split at hm
    next => exact Option.some.inj hm ▸ testTail_scan (hinv hbusy i l hl) he
    next => cases hm
  next => exact hinv hbusy j m hm

theorem BlockStep.searchInv {s t : State} (h : BlockStep s t) (hinv : s.SearchInv) : t.SearchInv := by
  cases h with
  | answered => exact hinv
  | laneTested a n i l hl he => exact laneTested_searchInv hinv hl he
  | completed | reset => exact searchInv_of_idle rfl
  | accepted d a i u hidle ha hd hu =>
    cases hu with
    | start => exact startSearch_searchInv s
    | data8 | data32 | crcState | init | target | capture | lanes | ctrl | ack => exact searchInv_of_idle hidle

/-- Settles O40: only a lane's test and START change what the invariant speaks of while BUSY is 1. -/
theorem everyStepKeepsTheSearchInvariant : Obligations.EveryStepKeepsTheSearchInvariant :=
  fun _ _ hinv h => (blockStep_of_step h).searchInv hinv

end Sys2Proof.Machine
end

section
/-! PROOFS. What a search ends with (spec/42_collision_search.md R137 to R143): the one matching tail and its lane, or
nothing with NOMATCH, in any schedule, and within the bound on lane steps. -/

namespace Sys2Proof.Machine

/-! ### The winner (R137, R140)

With both invariants, a lane that matched holds the one matching tail, and that tail's own lane cannot finish without it. -/

section winner
variable {s : State}

theorem lanes_le (hinv : s.Inv) : s.lanes.toNat ≤ 256 := by
  obtain ⟨-, -, hle, -⟩ := hinv
  exact hle.trans (nlanesMax_le s.params)

/-- A lane of the search has an entry in the lane file. -/
theorem exists_lane (hinv : s.Inv) {i : Nat} (hi : i < s.lanes.toNat) : ∃ l, s.laneFile[i]? = some l := by
  obtain ⟨hlength, -, hle, -⟩ := hinv
  exact ⟨_, List.getElem?_eq_getElem (by omega)⟩

/-- With NOMATCH 0 the comparator accepts the matching tail alone (R127, R137). -/
theorem tailMatches_iff_eq_matchingTail (s : State) (v : Word) :
    tailMatches s v = true ↔ v = matchingTail s.prefixState s.target ∧ s.noMatch = false := by
  rw [tailMatches_iff, eq_matchingTail_iff]

/-- A lane that matched holds the matching tail, which lies in its own range. -/
theorem winner_facts (hinv : s.Inv) {k : Nat} {l : Lane} (hscan : s.LaneScan k l) (hactive : l.active = true)
    (hfound : l.found = true) :
    s.noMatch = false ∧ l.val = matchingTail s.prefixState s.target
      ∧ k = (matchingTail s.prefixState s.target).toNat / rangeSize s.lanes.toNat := by
  have hk := lt_lanes_of_active hscan hactive
  obtain ⟨-, hlimit, hstart, -, -, hmatched⟩ := (laneScan_iff_of_lt hk l).mp hscan
  obtain ⟨hlt, hval, hm⟩ := hmatched hfound
  obtain ⟨htail, hnoMatch⟩ := (tailMatches_iff_eq_matchingTail s l.val).mp hm
  have hcur : l.cur.toNat < tailCount := (hlt.trans_eq hlimit).trans_le (rangeEnd_le_tailCount _ _)
  have hvalNat : (matchingTail s.prefixState s.target).toNat = l.cur.toNat := by
    rw [← htail, hval, BitVec.toNat_setWidth]
    exact Nat.mod_eq_of_lt hcur
  refine ⟨hnoMatch, htail, ?_⟩
  rw [hvalNat]
  exact (mem_range_iff (lanes_le hinv) hk hcur).mp ⟨hstart, hlt.trans_eq hlimit⟩

/-- The lane whose range holds the matching tail finishes only by finding it. -/
theorem found_of_finished (hinv : s.Inv) (hnoMatch : s.noMatch = false) {l : Lane}
    (hk : (matchingTail s.prefixState s.target).toNat / rangeSize s.lanes.toNat < s.lanes.toNat)
    (hscan : s.LaneScan ((matchingTail s.prefixState s.target).toNat / rangeSize s.lanes.toNat) l)
    (hfinished : l.active = false ∨ l.found = true ∨ l.cur = l.limit) : l.active = true ∧ l.found = true := by
  obtain ⟨hactive, hlimit, -, -, htested, -⟩ := (laneScan_iff_of_lt hk l).mp hscan
  refine ⟨hactive, ?_⟩
  rcases hfinished with hinactive | hfound | hend
  · exact absurd hactive (ne_true_of_eq_false hinactive)
  · exact hfound
  · have hmem := (mem_range_iff (lanes_le hinv) hk (matchingTail s.prefixState s.target).isLt).mpr rfl
    obtain ⟨hstart, hlt⟩ := hmem
    have hno := htested _ hstart (by rw [hend, hlimit]; exact hlt)
    rw [BitVec.ofNat_toNat, BitVec.setWidth_eq] at hno
    exact absurd ((tailMatches_iff_eq_matchingTail s _).mpr ⟨rfl, hnoMatch⟩) (ne_true_of_eq_false hno)

theorem firstWinner_of_completion (hinv : s.Inv) (hsearch : s.SearchInv) (he : completionEnabled s = true)
    (hnoMatch : s.noMatch = false) :
    firstWinner 0 s.laneFile
      = some ((matchingTail s.prefixState s.target).toNat / rangeSize s.lanes.toNat,
          matchingTail s.prefixState s.target) := by
  obtain ⟨hbusy, hfinished⟩ := (completionEnabled_iff s).mp he
  obtain ⟨-, hlanes, -⟩ := id hinv
  have hk := div_rangeSize_lt hlanes (matchingTail s.prefixState s.target).isLt
  obtain ⟨l, hl⟩ := exists_lane hinv hk
  have hscan := hsearch hbusy _ l hl
  obtain ⟨hactive, hfound⟩ := found_of_finished hinv hnoMatch hk hscan (hfinished l (List.mem_of_getElem? hl))
  obtain ⟨-, htail, -⟩ := winner_facts hinv hscan hactive hfound
  rw [← htail]
  rw [← htail] at hl hscan
  refine firstWinner_eq_of_lowest hl ⟨hactive, hfound⟩ fun j m hj hm ⟨hactive', hfound'⟩ => ?_
  obtain ⟨-, -, hindex⟩ := winner_facts hinv (hsearch hbusy j m hm) hactive' hfound'
  rw [← htail] at hindex
  omega

theorem firstWinner_of_noMatch (hinv : s.Inv) (hsearch : s.SearchInv) (hbusy : s.busy = true)
    (hnoMatch : s.noMatch = true) : firstWinner 0 s.laneFile = none := by
  rw [firstWinner_none]
  rintro l hl ⟨hactive, hfound⟩
  obtain ⟨k, hk⟩ := List.mem_iff_getElem?.mp hl
  obtain ⟨hnot, -⟩ := winner_facts hinv (hsearch hbusy k l hk) hactive hfound
  exact absurd hnoMatch (ne_true_of_eq_false hnot)

end winner

/-! ### The outcome of a search -/

/-- The block t shows the result of the search that s runs: DONE, with the matching tail of PREFIX and TARGET and its
lane, or, with NOMATCH, with nothing found (R134, R137). -/
structure SearchOutcome (s t : State) : Prop where
  busy_eq : t.busy = false
  done_eq : t.done = true
  prefixState_eq : t.prefixState = s.prefixState
  crcState_eq : t.crcState = s.crcState
  target_eq : t.target = s.target
  errcode_eq : t.errcode = s.errcode
  hit : s.noMatch = false → t.found = true ∧ t.result = matchingTail s.prefixState s.target
    ∧ t.resultLane.toNat = t.result.toNat / rangeSize s.lanes.toNat
  miss : s.noMatch = true → t.found = false ∧ t.result = 0xFFFFFFFF ∧ t.resultLane = 0

/-- The outcome is a matter of the search's inputs, not of how far its lanes are. -/
theorem SearchOutcome.of_laneFile {s t : State} {ls : List Lane} {a : List Event} {n : Nat}
    (h : SearchOutcome { s with laneFile := ls, agenda := a, tick := n } t) : SearchOutcome s t :=
  ⟨h.busy_eq, h.done_eq, h.prefixState_eq, h.crcState_eq, h.target_eq, h.errcode_eq, h.hit, h.miss⟩

/-- `Complete()` reports the outcome. -/
theorem completeSearch_outcome {s : State} (hinv : s.Inv) (hsearch : s.SearchInv) (he : completionEnabled s = true)
    (a : List Event) : SearchOutcome s { completeSearch s with agenda := a } := by
  refine ⟨rfl, rfl, rfl, rfl, rfl, rfl, fun hnoMatch => ?_, fun hnoMatch => ?_⟩
  · obtain ⟨-, hlanes, -⟩ := id hinv
    have hk := div_rangeSize_lt hlanes (matchingTail s.prefixState s.target).isLt
    rw [completeSearch_of_winner (firstWinner_of_completion hinv hsearch he hnoMatch)]
    exact ⟨rfl, rfl, Nat.mod_eq_of_lt (hk.trans_le (lanes_le hinv))⟩
  · obtain ⟨hbusy, -⟩ := (completionEnabled_iff s).mp he
    rw [completeSearch_of_no_winner (firstWinner_of_noMatch hinv hsearch hbusy hnoMatch)]
    exact ⟨rfl, rfl, rfl⟩

/-- Settles O42. -/
theorem completionReportsTheMatchingTail : Obligations.CompletionReportsTheMatchingTail := by
  intro s rest hinv hsearch he ha
  have houtcome := completeSearch_outcome hinv hsearch he rest
  exact ⟨_, step_of_enabledCompletion ha he, houtcome.busy_eq, houtcome.done_eq, houtcome.hit, houtcome.miss⟩

/-- Settles O43: the reported tail, fed after PREFIX, gives TARGET. -/
theorem searchContractHolds : Obligations.SearchContractHolds := by
  intro s rest original injection hinv hsearch he ha hnoMatch htarget hstream
  have hfed : s.prefixState = crcFeed crcInit (original ++ injection) := hstream
  obtain ⟨hfound, hresult, -⟩ := (completeSearch_outcome hinv hsearch he rest).hit hnoMatch
  refine ⟨_, step_of_enabledCompletion ha he, hfound, ?_, ?_⟩
  · rw [checksum_append, hresult, ← hfed, crcFin_crcFeed_matchingTail, htarget]
  · rw [List.length_append, List.length_append]
    rfl

/-! ### The bound on lane steps (R143) -/

/-- A sum over a list is bounded by the growth of g along it, where each entry is bounded by g's growth at its place. -/
theorem sum_map_add_le_of_getElem {α : Type} {f : α → Nat} {g : Nat → Nat} {ls : List α} {k : Nat}
    (h : ∀ (i : Nat) (l : α), ls[i]? = some l → f l + g (k + i) ≤ g (k + i + 1)) :
    (ls.map f).sum + g k ≤ g (k + ls.length) := by
  induction ls generalizing k with
  | nil => simp
  | cons l ls ih =>
    have hhead : f l + g k ≤ g (k + 1) := h 0 l rfl
    have htail : (ls.map f).sum + g (k + 1) ≤ g (k + 1 + ls.length) := ih fun i m hm => by
      rw [Nat.add_right_comm k 1 i]
      exact h (i + 1) m hm
    rw [List.map_cons, List.sum_cons, List.length_cons, ← Nat.add_assoc, Nat.add_right_comm k]
    omega

theorem sum_map_set_lt {α : Type} {f : α → Nat} {ls : List α} {i : Nat} {l m : α} (hl : ls[i]? = some l)
    (hlt : f m < f l) : ((ls.set i m).map f).sum < (ls.map f).sum := by
  induction ls generalizing i with
  | nil => cases hl
  | cons x ls ih =>
    cases i with
    | zero =>
      obtain rfl : x = l := Option.some.inj hl
      simpa using hlt
    | succ i => simpa using ih hl

/-- The tails that a lane has left lie between its range's ends. -/
theorem laneRemaining_add_le {s : State} {i : Nat} {l : Lane} (hscan : s.LaneScan i l) :
    laneRemaining l + rangeStart s.lanes.toNat i ≤ rangeStart s.lanes.toNat (i + 1) := by
  have hmono := rangeStart_monotone s.lanes.toNat (Nat.le_succ i)
  unfold laneRemaining
  split
  next h =>
    obtain ⟨hactive, -⟩ := Bool.and_eq_true_iff.mp h
    obtain ⟨-, hlimit, hstart, hle, -⟩ := (laneScan_iff_of_lt (lt_lanes_of_active hscan hactive) l).mp hscan
    rw [rangeEnd_eq_rangeStart_succ] at hlimit
    omega
  next => rwa [Nat.zero_add]

/-- The ranges together hold 2^32 tails. -/
theorem remaining_le {s : State} (hsearch : s.SearchInv) (hbusy : s.busy = true) : s.remaining ≤ 2 ^ 32 := by
  have hsum := sum_map_add_le_of_getElem (f := laneRemaining) (g := rangeStart s.lanes.toNat) (k := 0) fun i l hl => by
    rw [Nat.zero_add]
    exact laneRemaining_add_le (hsearch hbusy i l hl)
  exact (Nat.le_of_add_right_le hsum).trans (rangeStart_le_tailCount _ _)

/-- A test leaves its lane fewer tails: it stops the lane or moves it on. -/
theorem laneRemaining_testTail_lt {s : State} {l : Lane} (he : laneEnabled s l = true) :
    laneRemaining (testTail s l) < laneRemaining l := by
  obtain ⟨-, hactive, hfound, hlt⟩ := (laneEnabled_iff s l).mp he
  have hbefore : laneRemaining l = l.limit.toNat - l.cur.toNat := by simp [laneRemaining, hactive, hfound]
  by_cases hm : tailMatches s (l.cur.setWidth 32) = true
  · have hafter : laneRemaining (testTail s l) = 0 := by simp [testTail_of_match hm, laneRemaining]
    omega
  · have hnext := toNat_add_one_of_lt hlt
    have hafter : laneRemaining (testTail s l) = l.limit.toNat - (l.cur + 1).toNat := by
      rw [testTail_of_no_match hm, laneRemaining, hactive, hfound]
      rfl
    omega

/-- An enabled lane step, as a record. -/
theorem laneStep_of_enabledAt {s : State} {i : Nat} (h : laneEnabledAt s i = true) :
    ∃ ls, laneStep i s = { s with laneFile := ls } ∧ (ls.map laneRemaining).sum < s.remaining := by
  rcases laneStep_cases i s with ⟨hnot, -⟩ | ⟨l, hl, he, -, hstep⟩
  · exact absurd h (ne_true_of_eq_false hnot)
  · exact ⟨_, hstep, sum_map_set_lt hl (laneRemaining_testTail_lt he)⟩

/-- A search in which no lane can step is ready to complete. -/
theorem completionEnabled_of_no_lane {s : State} (hsearch : s.SearchInv) (hbusy : s.busy = true)
    (hnone : ∀ i, laneEnabledAt s i = false) : completionEnabled s = true := by
  refine (completionEnabled_iff s).mpr ⟨hbusy, fun l hl => ?_⟩
  obtain ⟨i, hi⟩ := List.mem_iff_getElem?.mp hl
  cases hactive : l.active with
  | false => exact .inl rfl
  | true =>
    have hscan := hsearch hbusy i l hi
    obtain ⟨-, -, -, hle, -⟩ := (laneScan_iff_of_lt (lt_lanes_of_active hscan hactive) l).mp hscan
    have hdisabled := (laneEnabledAt_eq_false_iff s i).mp (hnone i) l hi
    rcases (laneEnabled_eq_false_iff s l).mp hdisabled with hidle | hinactive | hfound | hend
    · exact absurd hbusy (ne_true_of_eq_false hidle)
    · exact absurd hactive (ne_true_of_eq_false hinactive)
    · exact .inr (.inl hfound)
    · exact .inr (.inr (BitVec.eq_of_toNat_eq (Nat.le_antisymm hle hend)))

/-- With nothing laid out a search runs to its outcome: each step takes a lane step while one is enabled, and then
`Complete()`. -/
theorem run_to_outcome (s : State) (hinv : s.Inv) (hsearch : s.SearchInv) (hbusy : s.busy = true)
    (ha : s.agenda = []) :
    ∃ (n : Nat) (t : State), n ≤ s.remaining + 1 ∧ Host.Core.run Sys2Proof.core n s = .next t ∧ SearchOutcome s t := by
  induction hmeasure : s.remaining using Nat.strong_induction_on generalizing s with
  | _ r ih =>
    subst hmeasure
    by_cases hlane : ∃ i, laneEnabledAt s i = true
    · obtain ⟨i, hi⟩ := hlane
      obtain ⟨j, hj, hturn⟩ := unitTurn_of_lane hi
      obtain ⟨ls, hstep, hless⟩ := laneStep_of_enabledAt hj
      rw [hstep] at hturn
      have hnext : step s = .next { s with laneFile := ls, tick := s.tick + 1 } :=
        (step_of_nil ha).trans (congrArg Host.Outcome.next hturn)
      have hblock := blockStep_of_step hnext
      obtain ⟨n, t, hn, hrun, houtcome⟩ := ih _ hless _ (hblock.inv hinv) (hblock.searchInv hsearch) hbusy ha rfl
      refine ⟨n + 1, t, ?_, (run_succ_of_step hnext n).trans hrun, houtcome.of_laneFile⟩
      have hn' : n ≤ (ls.map laneRemaining).sum + 1 := hn
      omega
    · have hnone : ∀ i, laneEnabledAt s i = false := fun i => Bool.eq_false_iff.mpr fun hi => hlane ⟨i, hi⟩
      have he := completionEnabled_of_no_lane hsearch hbusy hnone
      have hnext : step s = .next (completeSearch s) := by
        rw [step_of_nil ha, unitTurn_of_no_lane hnone, completionStep_of_enabled he]
      exact ⟨1, _, Nat.le_add_left 1 _, run_succ_of_step hnext 0, completeSearch_outcome hinv hsearch he s.agenda⟩

/-- Settles O44. -/
theorem everySearchCompletes : Obligations.EverySearchCompletes := by
  intro s hinv hsearch hbusy ha
  obtain ⟨n, t, hn, hrun, houtcome⟩ := run_to_outcome s hinv hsearch hbusy ha
  exact ⟨remaining_le hsearch hbusy, n, t, hn, hrun, houtcome.busy_eq, houtcome.done_eq⟩

/-- START as the next transaction of an idle block (R126). -/
theorem step_of_start {s : State} {rest : List Event} (ha : s.agenda = .txn (encode .wrCmdStart) :: rest)
    (hidle : s.busy = false) : step s = .next (answerWrite (startSearch { s with agenda := rest })) := by
  rw [step_of_decode ha (decodeOfEncodeIsTheOperation .wrCmdStart rfl), exec_wrCmdStart]
  exact gatedWrite_of_idle _ _ hidle

/-- Settles O45: START leaves a search that meets both invariants, and its PREFIX is the engine's state. -/
theorem startedSearchFindsTheMatchingTail : Obligations.StartedSearchFindsTheMatchingTail := by
  intro s hinv hidle ha
  have hstart := step_of_start ha hidle
  have hblock := blockStep_of_step hstart
  have hsearch := hblock.searchInv (searchInv_of_idle hidle)
  obtain ⟨n, t, hn, hrun, houtcome⟩ := run_to_outcome _ (hblock.inv hinv) hsearch rfl rfl
  have hbound := remaining_le hsearch rfl
  exact ⟨n + 1, t, by omega, (run_succ_of_step hstart n).trans hrun, houtcome.busy_eq, houtcome.done_eq,
    houtcome.prefixState_eq, houtcome.crcState_eq, houtcome.target_eq, houtcome.errcode_eq, houtcome.hit, houtcome.miss⟩

/-! ### Schedules (R138) -/

/-- A step of the search unit that is laid out. -/
def IsUnitEvent (e : Event) : Prop := e = .complete ∨ ∃ i, e = .lane i

/-- Unit steps of an idle block only leave the agenda. -/
theorem run_unitEvents_idle {es : List Event} (hes : ∀ e ∈ es, IsUnitEvent e) {s : State} (hidle : s.busy = false) :
    Host.Core.run Sys2Proof.core es.length { s with agenda := es } = .next { s with agenda := [] } := by
  induction es with
  | nil => rfl
  | cons e es ih =>
    obtain ⟨he, hes'⟩ := List.forall_mem_cons.mp hes
    refine (run_succ_of_step (t := { s with agenda := es }) ?_ es.length).trans (ih hes')
    rcases he with rfl | ⟨i, rfl⟩
    · exact (step_of_complete rfl).trans
        (congrArg Host.Outcome.next (completionStep_of_not_enabled (completionEnabled_of_idle hidle)))
    · exact (step_of_lane rfl).trans
        (congrArg Host.Outcome.next (laneStep_of_not_enabled (laneEnabledAt_of_idle hidle i)))

/-- A schedule of unit steps that ends the search ends it with its outcome. -/
theorem outcome_of_run_unitEvents {es : List Event} (hes : ∀ e ∈ es, IsUnitEvent e) {s t : State} (hinv : s.Inv)
    (hsearch : s.SearchInv) (hbusy : s.busy = true)
    (hrun : Host.Core.run Sys2Proof.core es.length { s with agenda := es } = .next t) (hended : t.busy = false) :
    SearchOutcome s t := by
  induction es generalizing s with
  | nil =>
    obtain rfl := Host.Outcome.next.inj hrun
    exact absurd hbusy (ne_true_of_eq_false hended)
  | cons e es ih =>
    obtain ⟨he, hes'⟩ := List.forall_mem_cons.mp hes
    rcases he with rfl | ⟨i, rfl⟩
    · cases henabled : completionEnabled s with
      | true =>
        have hstep : step { s with agenda := .complete :: es } = .next { completeSearch s with agenda := es } :=
          step_of_enabledCompletion rfl henabled
        have hidle := run_unitEvents_idle hes' (completeSearch_busy s)
        obtain rfl := Host.Outcome.next.inj (hrun.symm.trans ((run_succ_of_step hstep es.length).trans hidle))
        exact completeSearch_outcome hinv hsearch henabled []
      | false =>
        have hstep : step { s with agenda := .complete :: es } = .next { s with agenda := es } :=
          (step_of_complete rfl).trans (congrArg Host.Outcome.next (completionStep_of_not_enabled henabled))
        exact ih hes' hinv hsearch hbusy ((run_succ_of_step hstep es.length).symm.trans hrun)
    · have hstep : step { s with agenda := .lane i :: es } = .next { laneStep i s with agenda := es } :=
        (step_of_lane rfl).trans (congrArg Host.Outcome.next (laneStep_agenda i s es))
      have hblock : BlockStep s (laneStep i s) := blockStep_of_laneStep s s.agenda i
      have hinv' := hblock.inv hinv
      have hsearch' := hblock.searchInv hsearch
      have hrun' := (run_succ_of_step hstep es.length).symm.trans hrun
      rw [laneStep_eq_modify] at hinv' hsearch' hrun'
      exact (ih hes' hinv' hsearch' hbusy hrun').of_laneFile

/-- Settles O47: both schedules end with the outcome of the one search. -/
theorem resultIsIndependentOfTheSchedule : Obligations.ResultIsIndependentOfTheSchedule := by
  intro s es1 es2 t1 t2 hinv hsearch hbusy hes1 hes2 hrun1 hrun2 hended1 hended2
  have houtcome1 := outcome_of_run_unitEvents hes1 hinv hsearch hbusy hrun1 hended1
  have houtcome2 := outcome_of_run_unitEvents hes2 hinv hsearch hbusy hrun2 hended2
  cases hnoMatch : s.noMatch with
  | false =>
    obtain ⟨hfound1, hresult1, hlane1⟩ := houtcome1.hit hnoMatch
    obtain ⟨hfound2, hresult2, hlane2⟩ := houtcome2.hit hnoMatch
    refine ⟨hfound1.trans hfound2.symm, hresult1.trans hresult2.symm, BitVec.eq_of_toNat_eq ?_⟩
    rw [hlane1, hlane2, hresult1, hresult2]
  | true =>
    obtain ⟨hfound1, hresult1, hlane1⟩ := houtcome1.miss hnoMatch
    obtain ⟨hfound2, hresult2, hlane2⟩ := houtcome2.miss hnoMatch
    exact ⟨hfound1.trans hfound2.symm, hresult1.trans hresult2.symm, hlane1.trans hlane2.symm⟩

end Sys2Proof.Machine
end
